-- ==== Sys2Proof/Word.lean ====
section
/-! DEFINITION. The two word types of the block: bytes and 16-bit words (00_scope.md R5). -/

namespace Sys2Proof

/-- An 8-bit value: a register, a memory cell, an I/O port number or an I/O datum (R5). -/
abbrev Byte := BitVec 8

/-- A 16-bit value: a register pair, SP, PC or a memory address (R5); its `+` and `-` wrap (R7). -/
abbrev Word := BitVec 16

end Sys2Proof
end

