-- ==== Sys2Proof/Config.lean ====
section
/-! DEFINITION. The parameters the spec leaves OPEN (00_scope.md R5) and the free values: what the
host answers, which nothing in the model constrains. -/

namespace Sys2Proof

/-- `QUIT_ORDER` (R5): whether the iteration in which `Quit` is polled still runs its step. -/
inductive QuitOrder where
  | afterStep
  | beforeStep
deriving DecidableEq, Repr

/-- `UNDOC_MODE` (R5): the twelve undefined bytes run as their aliases (R320) or are refused (R325). -/
inductive UndocMode where
  | runAlias
  | refuse
deriving DecidableEq, Repr

/-- `MEM_PORT` (R5): plain RAM, the reference value (R60), or any other port, of which the block knows
nothing: shared, bank-switched or read-only memory (R61, R73). Log 3. -/
inductive MemPort where
  | ram
  | draws
deriving DecidableEq, Repr

/-- The named parameters of R5. They are data, so that a statement about every state is a statement
about every value the table admits. Log 4. -/
structure Params where
  /-- `EI_DELAY`: true is 1, the Intel 8080 value. -/
  eiDelay : Bool
  quitOrder : QuitOrder
  memPort : MemPort
  haltIdleCycles : Nat
  sentinel : Option Word
  undocMode : UndocMode
deriving DecidableEq, Repr

/-- The values `State.reset` takes: the Intel 8080's EI delay, the source's literal order of the loop
body, plain RAM and the alias map the source requires. DESIGN CHOICE, log 4. -/
def Params.reference : Params where
  eiDelay := true
  quitOrder := .afterStep
  memPort := .ram
  haltIdleCycles := 0
  sentinel := none
  undocMode := .runAlias

/-- `INIT_STATE` (R5, R370): what construction leaves in the registers and the five flags. Of `f` only
the five flag bits count; construction pins the others (R28). -/
structure InitState where
  a : Byte
  b : Byte
  c : Byte
  d : Byte
  e : Byte
  h : Byte
  l : Byte
  f : Byte
  sp : Word
  pc : Word
deriving DecidableEq, Repr

/-- The `INIT_STATE` of `State.reset`. DESIGN CHOICE, log 1. -/
def InitState.zero : InitState where
  a := 0
  b := 0
  c := 0
  d := 0
  e := 0
  h := 0
  l := 0
  f := 0
  sp := 0
  pc := 0

/-- One call the I/O Port has seen (R62). -/
inductive IoEvent where
  /-- `Read(port)`, answered with the byte `answer`. -/
  | read (port answer : Byte)
  /-- `Write(port, value)`. -/
  | write (port value : Byte)
deriving DecidableEq, Repr

/-- What the host answers to a poll (60_exceptions.md R333). -/
inductive Signal where
  | noInterrupt
  | rst (n : BitVec 3)
  | quit
deriving DecidableEq, Repr, Inhabited

/-- Which memory read of an iteration a `MemRead` is: one of the fetch's (R67) or one of the
operation's (R70). It only numbers the free values of `Config.memDraw`. -/
inductive Access where
  | opcode
  | operand1
  | operand2
  | data1
  | data2
deriving DecidableEq, Repr

/-- FREE VALUE, log 3: the byte a memory port that is not plain RAM answers. It may depend on when the
read happens, on everything the block has written and on everything the I/O Port has seen. -/
opaque Config.memDraw (iteration : Nat) (access : Access) (written : List Host.Cell)
    (io : List IoEvent) (a : Word) : Byte

/-- FREE VALUE, log 9: the byte the host answers to an `IORead` past the end of the listed answers
(R62). It may depend on when the read happens and on everything the I/O Port has seen. -/
opaque Config.ioDraw (iteration : Nat) (io : List IoEvent) (port : Byte) : Byte

/-- FREE VALUE, log 5: what the host answers to a poll past the end of the listed moves (60_exceptions.md
R332): any signal. It may depend on when the poll happens, on CYCLES (R331), on everything the block has
written and on everything the I/O Port has seen. -/
opaque Config.pollDraw (iteration cycles : Nat) (written : List Host.Cell) (io : List IoEvent) : Signal

end Sys2Proof
end

