-- ==== Sys2Proof/Syntax.lean ====
section
/-! DEFINITION. The instructions: one constructor per mnemonic of spec/opcode_table.json, and the small
enumerations the encoding's fields name (30_encoding.md R95 to R99). The seven rows `*NOP` share a
constructor that keeps the field ddd (45_undocumented.md R321), and the three rows `*CALL` one that
keeps bits 5:4 of the byte (R324); log 16. -/

namespace Sys2Proof

/-- The seven general registers (10_state.md R20). -/
inductive Reg where
  | b
  | c
  | d
  | e
  | h
  | l
  | a
deriving DecidableEq, Repr

/-- What a 3-bit register code names: a register, or M, the byte at HL (R95, R97). -/
inductive Loc where
  | reg (r : Reg)
  | m
deriving DecidableEq, Repr

/-- The pairs of LXI, DAD, INX and DCX (R96). -/
inductive Pair where
  | bc
  | de
  | hl
  | sp
deriving DecidableEq, Repr

/-- The pairs of PUSH and POP (R96). -/
inductive StackPair where
  | bc
  | de
  | hl
  | psw
deriving DecidableEq, Repr

/-- The pairs of LDAX and STAX (R96). -/
inductive IndexPair where
  | bc
  | de
deriving DecidableEq, Repr

/-- The eight conditions (R98). -/
inductive Cond where
  | nz
  | z
  | nc
  | c
  | po
  | pe
  | p
  | m
deriving DecidableEq, Repr

/-- The eight ALU operations (R99). -/
inductive AluOp where
  | add
  | adc
  | sub
  | sbb
  | ana
  | xra
  | ora
  | cmp
deriving DecidableEq, Repr

/-- The instructions: first those with an operand byte or a field, then the others, each group in the
order of the opcode table. `imm8`, `imm16`, `addr` and `port` are the operand bytes (R93, R94). -/
inductive Instr where
  | lxiB (imm16 : Word)
  | mviB (imm8 : Byte)
  | undefNop (ddd : BitVec 3)
  | mviC (imm8 : Byte)
  | lxiD (imm16 : Word)
  | mviD (imm8 : Byte)
  | mviE (imm8 : Byte)
  | lxiH (imm16 : Word)
  | shld (addr : Word)
  | mviH (imm8 : Byte)
  | lhld (addr : Word)
  | mviL (imm8 : Byte)
  | lxiSp (imm16 : Word)
  | sta (addr : Word)
  | mviM (imm8 : Byte)
  | lda (addr : Word)
  | mviA (imm8 : Byte)
  | jnz (addr : Word)
  | jmp (addr : Word)
  | cnz (addr : Word)
  | adi (imm8 : Byte)
  | jz (addr : Word)
  | undefJmp (addr : Word)
  | cz (addr : Word)
  | call (addr : Word)
  | aci (imm8 : Byte)
  | jnc (addr : Word)
  | out (port : Byte)
  | cnc (addr : Word)
  | sui (imm8 : Byte)
  | jc (addr : Word)
  | inp (port : Byte)
  | cc (addr : Word)
  | undefCall (sel : BitVec 2) (addr : Word)
  | sbi (imm8 : Byte)
  | jpo (addr : Word)
  | cpo (addr : Word)
  | ani (imm8 : Byte)
  | jpe (addr : Word)
  | cpe (addr : Word)
  | xri (imm8 : Byte)
  | jp (addr : Word)
  | cp (addr : Word)
  | ori (imm8 : Byte)
  | jm (addr : Word)
  | cm (addr : Word)
  | cpi (imm8 : Byte)
  | nop
  | staxB
  | inxB
  | inrB
  | dcrB
  | rlc
  | dadB
  | ldaxB
  | dcxB
  | inrC
  | dcrC
  | rrc
  | staxD
  | inxD
  | inrD
  | dcrD
  | ral
  | dadD
  | ldaxD
  | dcxD
  | inrE
  | dcrE
  | rar
  | inxH
  | inrH
  | dcrH
  | daa
  | dadH
  | dcxH
  | inrL
  | dcrL
  | cma
  | inxSp
  | inrM
  | dcrM
  | stc
  | dadSp
  | dcxSp
  | inrA
  | dcrA
  | cmc
  | movBB
  | movBC
  | movBD
  | movBE
  | movBH
  | movBL
  | movBM
  | movBA
  | movCB
  | movCC
  | movCD
  | movCE
  | movCH
  | movCL
  | movCM
  | movCA
  | movDB
  | movDC
  | movDD
  | movDE
  | movDH
  | movDL
  | movDM
  | movDA
  | movEB
  | movEC
  | movED
  | movEE
  | movEH
  | movEL
  | movEM
  | movEA
  | movHB
  | movHC
  | movHD
  | movHE
  | movHH
  | movHL
  | movHM
  | movHA
  | movLB
  | movLC
  | movLD
  | movLE
  | movLH
  | movLL
  | movLM
  | movLA
  | movMB
  | movMC
  | movMD
  | movME
  | movMH
  | movML
  | hlt
  | movMA
  | movAB
  | movAC
  | movAD
  | movAE
  | movAH
  | movAL
  | movAM
  | movAA
  | addB
  | addC
  | addD
  | addE
  | addH
  | addL
  | addM
  | addA
  | adcB
  | adcC
  | adcD
  | adcE
  | adcH
  | adcL
  | adcM
  | adcA
  | subB
  | subC
  | subD
  | subE
  | subH
  | subL
  | subM
  | subA
  | sbbB
  | sbbC
  | sbbD
  | sbbE
  | sbbH
  | sbbL
  | sbbM
  | sbbA
  | anaB
  | anaC
  | anaD
  | anaE
  | anaH
  | anaL
  | anaM
  | anaA
  | xraB
  | xraC
  | xraD
  | xraE
  | xraH
  | xraL
  | xraM
  | xraA
  | oraB
  | oraC
  | oraD
  | oraE
  | oraH
  | oraL
  | oraM
  | oraA
  | cmpB
  | cmpC
  | cmpD
  | cmpE
  | cmpH
  | cmpL
  | cmpM
  | cmpA
  | rnz
  | popB
  | pushB
  | rst0
  | rz
  | ret
  | rst1
  | rnc
  | popD
  | pushD
  | rst2
  | rc
  | undefRet
  | rst3
  | rpo
  | popH
  | xthl
  | pushH
  | rst4
  | rpe
  | pchl
  | xchg
  | rst5
  | rp
  | popPsw
  | di
  | pushPsw
  | rst6
  | rm
  | sphl
  | ei
  | rst7
deriving DecidableEq, Repr

end Sys2Proof
end

