-- ==== Sys2Proof/Decode.lean ====
section
/-! DEFINITION. From bytes to instructions and back (30_encoding.md). The decoder takes the opcode byte
apart into the fields of R91 and follows R101 to R104; the encoder reads the opcode map R105. -/

namespace Sys2Proof

/-! ## Byte order (20_memory.md R68) and fields (R91) -/

/-- `hi ++ lo`, the high byte named first (00_scope.md R6). -/
def joinBytes (hi lo : Byte) : Word := hi ++ lo

/-- Bits 15..8. -/
def hiByte (w : Word) : Byte := w.extractLsb' 8 8

/-- Bits 7..0. -/
def loByte (w : Word) : Byte := w.extractLsb' 0 8

/-- Bits 7:6, `grp`: the quadrant. -/
def fieldGrp (op : Byte) : BitVec 2 := op.extractLsb' 6 2

/-- Bits 5:3, `ddd`, `alu`, `ccc` or `nnn`. -/
def fieldDdd (op : Byte) : BitVec 3 := op.extractLsb' 3 3

/-- Bits 5:4, `rp`. -/
def fieldRp (op : Byte) : BitVec 2 := op.extractLsb' 4 2

/-- Bit 3, `q`. -/
def fieldQ (op : Byte) : Bool := op.getLsbD 3

/-- Bits 2:0, `sss`. -/
def fieldSss (op : Byte) : BitVec 3 := op.extractLsb' 0 3

/-! ## Code tables -/

/-- The register codes (R95). -/
def locOfCode (code : BitVec 3) : Loc :=
  match code.toNat with
  | 0 => .reg .b
  | 1 => .reg .c
  | 2 => .reg .d
  | 3 => .reg .e
  | 4 => .reg .h
  | 5 => .reg .l
  | 6 => .m
  | _ => .reg .a

/-- The pair codes of LXI, DAD, INX and DCX (R96). -/
def pairOfCode (code : BitVec 2) : Pair :=
  match code.toNat with
  | 0 => .bc
  | 1 => .de
  | 2 => .hl
  | _ => .sp

/-- The pair codes of PUSH and POP (R96). -/
def stackPairOfCode (code : BitVec 2) : StackPair :=
  match code.toNat with
  | 0 => .bc
  | 1 => .de
  | 2 => .hl
  | _ => .psw

/-- The condition codes (R98). -/
def condOfCode (code : BitVec 3) : Cond :=
  match code.toNat with
  | 0 => .nz
  | 1 => .z
  | 2 => .nc
  | 3 => .c
  | 4 => .po
  | 5 => .pe
  | 6 => .p
  | _ => .m

/-- The ALU operation codes (R99). -/
def aluOfCode (code : BitVec 3) : AluOp :=
  match code.toNat with
  | 0 => .add
  | 1 => .adc
  | 2 => .sub
  | 3 => .sbb
  | 4 => .ana
  | 5 => .xra
  | 6 => .ora
  | _ => .cmp

/-! ## The instruction that an operation and its operands name

Each function takes decoded operands to the constructor; the spec writes its rules over these
operands. -/

/-- `01 ddd sss`: MOV, but for M to M, which is HLT (R102). -/
def Instr.ofMov : (d s : Loc) → Instr
  | .reg .b, .reg .b => .movBB
  | .reg .b, .reg .c => .movBC
  | .reg .b, .reg .d => .movBD
  | .reg .b, .reg .e => .movBE
  | .reg .b, .reg .h => .movBH
  | .reg .b, .reg .l => .movBL
  | .reg .b, .m => .movBM
  | .reg .b, .reg .a => .movBA
  | .reg .c, .reg .b => .movCB
  | .reg .c, .reg .c => .movCC
  | .reg .c, .reg .d => .movCD
  | .reg .c, .reg .e => .movCE
  | .reg .c, .reg .h => .movCH
  | .reg .c, .reg .l => .movCL
  | .reg .c, .m => .movCM
  | .reg .c, .reg .a => .movCA
  | .reg .d, .reg .b => .movDB
  | .reg .d, .reg .c => .movDC
  | .reg .d, .reg .d => .movDD
  | .reg .d, .reg .e => .movDE
  | .reg .d, .reg .h => .movDH
  | .reg .d, .reg .l => .movDL
  | .reg .d, .m => .movDM
  | .reg .d, .reg .a => .movDA
  | .reg .e, .reg .b => .movEB
  | .reg .e, .reg .c => .movEC
  | .reg .e, .reg .d => .movED
  | .reg .e, .reg .e => .movEE
  | .reg .e, .reg .h => .movEH
  | .reg .e, .reg .l => .movEL
  | .reg .e, .m => .movEM
  | .reg .e, .reg .a => .movEA
  | .reg .h, .reg .b => .movHB
  | .reg .h, .reg .c => .movHC
  | .reg .h, .reg .d => .movHD
  | .reg .h, .reg .e => .movHE
  | .reg .h, .reg .h => .movHH
  | .reg .h, .reg .l => .movHL
  | .reg .h, .m => .movHM
  | .reg .h, .reg .a => .movHA
  | .reg .l, .reg .b => .movLB
  | .reg .l, .reg .c => .movLC
  | .reg .l, .reg .d => .movLD
  | .reg .l, .reg .e => .movLE
  | .reg .l, .reg .h => .movLH
  | .reg .l, .reg .l => .movLL
  | .reg .l, .m => .movLM
  | .reg .l, .reg .a => .movLA
  | .m, .reg .b => .movMB
  | .m, .reg .c => .movMC
  | .m, .reg .d => .movMD
  | .m, .reg .e => .movME
  | .m, .reg .h => .movMH
  | .m, .reg .l => .movML
  | .m, .m => .hlt
  | .m, .reg .a => .movMA
  | .reg .a, .reg .b => .movAB
  | .reg .a, .reg .c => .movAC
  | .reg .a, .reg .d => .movAD
  | .reg .a, .reg .e => .movAE
  | .reg .a, .reg .h => .movAH
  | .reg .a, .reg .l => .movAL
  | .reg .a, .m => .movAM
  | .reg .a, .reg .a => .movAA

/-- `10 alu sss`: the ALU operation of A with a register or M (R99, R103). -/
def Instr.ofAlu : AluOp → Loc → Instr
  | .add, .reg .b => .addB
  | .add, .reg .c => .addC
  | .add, .reg .d => .addD
  | .add, .reg .e => .addE
  | .add, .reg .h => .addH
  | .add, .reg .l => .addL
  | .add, .m => .addM
  | .add, .reg .a => .addA
  | .adc, .reg .b => .adcB
  | .adc, .reg .c => .adcC
  | .adc, .reg .d => .adcD
  | .adc, .reg .e => .adcE
  | .adc, .reg .h => .adcH
  | .adc, .reg .l => .adcL
  | .adc, .m => .adcM
  | .adc, .reg .a => .adcA
  | .sub, .reg .b => .subB
  | .sub, .reg .c => .subC
  | .sub, .reg .d => .subD
  | .sub, .reg .e => .subE
  | .sub, .reg .h => .subH
  | .sub, .reg .l => .subL
  | .sub, .m => .subM
  | .sub, .reg .a => .subA
  | .sbb, .reg .b => .sbbB
  | .sbb, .reg .c => .sbbC
  | .sbb, .reg .d => .sbbD
  | .sbb, .reg .e => .sbbE
  | .sbb, .reg .h => .sbbH
  | .sbb, .reg .l => .sbbL
  | .sbb, .m => .sbbM
  | .sbb, .reg .a => .sbbA
  | .ana, .reg .b => .anaB
  | .ana, .reg .c => .anaC
  | .ana, .reg .d => .anaD
  | .ana, .reg .e => .anaE
  | .ana, .reg .h => .anaH
  | .ana, .reg .l => .anaL
  | .ana, .m => .anaM
  | .ana, .reg .a => .anaA
  | .xra, .reg .b => .xraB
  | .xra, .reg .c => .xraC
  | .xra, .reg .d => .xraD
  | .xra, .reg .e => .xraE
  | .xra, .reg .h => .xraH
  | .xra, .reg .l => .xraL
  | .xra, .m => .xraM
  | .xra, .reg .a => .xraA
  | .ora, .reg .b => .oraB
  | .ora, .reg .c => .oraC
  | .ora, .reg .d => .oraD
  | .ora, .reg .e => .oraE
  | .ora, .reg .h => .oraH
  | .ora, .reg .l => .oraL
  | .ora, .m => .oraM
  | .ora, .reg .a => .oraA
  | .cmp, .reg .b => .cmpB
  | .cmp, .reg .c => .cmpC
  | .cmp, .reg .d => .cmpD
  | .cmp, .reg .e => .cmpE
  | .cmp, .reg .h => .cmpH
  | .cmp, .reg .l => .cmpL
  | .cmp, .m => .cmpM
  | .cmp, .reg .a => .cmpA

/-- `11 alu 110`: the ALU operation of A with imm8 (R99, R104). -/
def Instr.ofAluImm (op : AluOp) (imm8 : Byte) : Instr :=
  match op with
  | .add => .adi imm8
  | .adc => .aci imm8
  | .sub => .sui imm8
  | .sbb => .sbi imm8
  | .ana => .ani imm8
  | .xra => .xri imm8
  | .ora => .ori imm8
  | .cmp => .cpi imm8

/-- INR with the register code of bits 5:3 (R101). -/
def Instr.ofInr (d : Loc) : Instr :=
  match d with
  | .reg .b => .inrB
  | .reg .c => .inrC
  | .reg .d => .inrD
  | .reg .e => .inrE
  | .reg .h => .inrH
  | .reg .l => .inrL
  | .m => .inrM
  | .reg .a => .inrA

/-- DCR with the register code of bits 5:3 (R101). -/
def Instr.ofDcr (d : Loc) : Instr :=
  match d with
  | .reg .b => .dcrB
  | .reg .c => .dcrC
  | .reg .d => .dcrD
  | .reg .e => .dcrE
  | .reg .h => .dcrH
  | .reg .l => .dcrL
  | .m => .dcrM
  | .reg .a => .dcrA

/-- MVI with the register code of bits 5:3 (R101). -/
def Instr.ofMvi (d : Loc) (imm8 : Byte) : Instr :=
  match d with
  | .reg .b => .mviB imm8
  | .reg .c => .mviC imm8
  | .reg .d => .mviD imm8
  | .reg .e => .mviE imm8
  | .reg .h => .mviH imm8
  | .reg .l => .mviL imm8
  | .m => .mviM imm8
  | .reg .a => .mviA imm8

/-- LXI with the pair code of bits 5:4 (R96, R101). -/
def Instr.ofLxi (rp : Pair) (imm16 : Word) : Instr :=
  match rp with
  | .bc => .lxiB imm16
  | .de => .lxiD imm16
  | .hl => .lxiH imm16
  | .sp => .lxiSp imm16

/-- DAD with the pair code of bits 5:4 (R96, R101). -/
def Instr.ofDad (rp : Pair) : Instr :=
  match rp with
  | .bc => .dadB
  | .de => .dadD
  | .hl => .dadH
  | .sp => .dadSp

/-- INX with the pair code of bits 5:4 (R96, R101). -/
def Instr.ofInx (rp : Pair) : Instr :=
  match rp with
  | .bc => .inxB
  | .de => .inxD
  | .hl => .inxH
  | .sp => .inxSp

/-- DCX with the pair code of bits 5:4 (R96, R101). -/
def Instr.ofDcx (rp : Pair) : Instr :=
  match rp with
  | .bc => .dcxB
  | .de => .dcxD
  | .hl => .dcxH
  | .sp => .dcxSp

/-- LDAX through BC or DE (R96). -/
def Instr.ofLdax (rp : IndexPair) : Instr :=
  match rp with
  | .bc => .ldaxB
  | .de => .ldaxD

/-- STAX through BC or DE (R96). -/
def Instr.ofStax (rp : IndexPair) : Instr :=
  match rp with
  | .bc => .staxB
  | .de => .staxD

/-- PUSH with the pair code of bits 5:4 (R96, R104). -/
def Instr.ofPush (rp : StackPair) : Instr :=
  match rp with
  | .bc => .pushB
  | .de => .pushD
  | .hl => .pushH
  | .psw => .pushPsw

/-- POP with the pair code of bits 5:4 (R96, R104). -/
def Instr.ofPop (rp : StackPair) : Instr :=
  match rp with
  | .bc => .popB
  | .de => .popD
  | .hl => .popH
  | .psw => .popPsw

/-- Jccc with the condition code of bits 5:3 (R98, R104). -/
def Instr.ofJccc (cond : Cond) (addr : Word) : Instr :=
  match cond with
  | .nz => .jnz addr
  | .z => .jz addr
  | .nc => .jnc addr
  | .c => .jc addr
  | .po => .jpo addr
  | .pe => .jpe addr
  | .p => .jp addr
  | .m => .jm addr

/-- Cccc with the condition code of bits 5:3 (R98, R104). -/
def Instr.ofCccc (cond : Cond) (addr : Word) : Instr :=
  match cond with
  | .nz => .cnz addr
  | .z => .cz addr
  | .nc => .cnc addr
  | .c => .cc addr
  | .po => .cpo addr
  | .pe => .cpe addr
  | .p => .cp addr
  | .m => .cm addr

/-- Rccc with the condition code of bits 5:3 (R98, R104). -/
def Instr.ofRccc (cond : Cond) : Instr :=
  match cond with
  | .nz => .rnz
  | .z => .rz
  | .nc => .rnc
  | .c => .rc
  | .po => .rpo
  | .pe => .rpe
  | .p => .rp
  | .m => .rm

/-- RST with the restart number of bits 5:3 (R100). -/
def Instr.ofRst (n : BitVec 3) : Instr :=
  match n.toNat with
  | 0 => .rst0
  | 1 => .rst1
  | 2 => .rst2
  | 3 => .rst3
  | 4 => .rst4
  | 5 => .rst5
  | 6 => .rst6
  | _ => .rst7

/-! ## Decoding -/

/-- The 2-byte opcodes (R92). -/
def twoByteOpcodes : List Byte :=
  [0x06, 0x0E, 0x16, 0x1E, 0x26, 0x2E, 0x36, 0x3E,
   0xC6, 0xCE, 0xD6, 0xDE, 0xE6, 0xEE, 0xF6, 0xFE, 0xD3, 0xDB]

/-- The 3-byte opcodes (R92). -/
def threeByteOpcodes : List Byte :=
  [0x01, 0x11, 0x21, 0x31, 0x22, 0x2A, 0x32, 0x3A, 0xC3,
   0xC2, 0xCA, 0xD2, 0xDA, 0xE2, 0xEA, 0xF2, 0xFA, 0xCD,
   0xC4, 0xCC, 0xD4, 0xDC, 0xE4, 0xEC, 0xF4, 0xFC, 0xCB, 0xDD, 0xED, 0xFD]

/-- The length of an instruction, from its opcode byte alone (R92). -/
def opcodeLength (op : Byte) : Nat :=
  if twoByteOpcodes.contains op then 2
  else if threeByteOpcodes.contains op then 3
  else 1

/-- Quadrant 00 (R101). -/
def decodeMisc (op b2 : Byte) (imm16 : Word) : Instr :=
  match (fieldSss op).toNat, fieldQ op with
  | 0, _ => if fieldDdd op = 0 then .nop else .undefNop (fieldDdd op)
  | 1, false => .ofLxi (pairOfCode (fieldRp op)) imm16
  | 1, true => .ofDad (pairOfCode (fieldRp op))
  | 2, false =>
    match (fieldRp op).toNat with
    | 0 => .ofStax .bc
    | 1 => .ofStax .de
    | 2 => .shld imm16
    | _ => .sta imm16
  | 2, true =>
    match (fieldRp op).toNat with
    | 0 => .ofLdax .bc
    | 1 => .ofLdax .de
    | 2 => .lhld imm16
    | _ => .lda imm16
  | 3, false => .ofInx (pairOfCode (fieldRp op))
  | 3, true => .ofDcx (pairOfCode (fieldRp op))
  | 4, _ => .ofInr (locOfCode (fieldDdd op))
  | 5, _ => .ofDcr (locOfCode (fieldDdd op))
  | 6, _ => .ofMvi (locOfCode (fieldDdd op)) b2
  | _, _ =>
    match (fieldDdd op).toNat with
    | 0 => .rlc
    | 1 => .rrc
    | 2 => .ral
    | 3 => .rar
    | 4 => .daa
    | 5 => .cma
    | 6 => .stc
    | _ => .cmc

/-- Quadrant 11 (R104). -/
def decodeControl (op b2 : Byte) (imm16 : Word) : Instr :=
  match (fieldSss op).toNat, fieldQ op with
  | 0, _ => .ofRccc (condOfCode (fieldDdd op))
  | 1, false => .ofPop (stackPairOfCode (fieldRp op))
  | 1, true =>
    match (fieldRp op).toNat with
    | 0 => .ret
    | 1 => .undefRet
    | 2 => .pchl
    | _ => .sphl
  | 2, _ => .ofJccc (condOfCode (fieldDdd op)) imm16
  | 3, _ =>
    match (fieldDdd op).toNat with
    | 0 => .jmp imm16
    | 1 => .undefJmp imm16
    | 2 => .out b2
    | 3 => .inp b2
    | 4 => .xthl
    | 5 => .xchg
    | 6 => .di
    | _ => .ei
  | 4, _ => .ofCccc (condOfCode (fieldDdd op)) imm16
  | 5, false => .ofPush (stackPairOfCode (fieldRp op))
  | 5, true => if fieldRp op = 0 then .call imm16 else .undefCall (fieldRp op) imm16
  | 6, _ => .ofAluImm (aluOfCode (fieldDdd op)) b2
  | _, _ => .ofRst (fieldDdd op)

/-- The instruction of an opcode byte and the two bytes after it, which a shorter instruction does not
read (R111). Every byte is an instruction (R106, R107). -/
def decodeOpcode (op b2 b3 : Byte) : Instr :=
  match (fieldGrp op).toNat with
  | 0 => decodeMisc op b2 (joinBytes b3 b2)
  | 1 => .ofMov (locOfCode (fieldDdd op)) (locOfCode (fieldSss op))
  | 2 => .ofAlu (aluOfCode (fieldDdd op)) (locOfCode (fieldSss op))
  | _ => decodeControl op b2 (joinBytes b3 b2)

/-- Why a list of bytes begins with no instruction: it ends too soon. No opcode is a reason (R107). -/
inductive DecodeError where
  | noBytes
  | truncated (op : Byte)
deriving DecidableEq, Repr

/-- The instruction a list of bytes begins with, and the bytes after it. -/
def decode (bytes : List Byte) : Except DecodeError (Instr × List Byte) :=
  match bytes with
  | [] => .error .noBytes
  | op :: rest =>
    match opcodeLength op, rest with
    | 1, _ => .ok (decodeOpcode op 0 0, rest)
    | 2, b2 :: rest' => .ok (decodeOpcode op b2 0, rest')
    | 3, b2 :: b3 :: rest' => .ok (decodeOpcode op b2 b3, rest')
    | _, _ => .error (.truncated op)

/-- The host's question about one row of the opcode table: bit 0 of `w` is the least significant bit of
the first byte, the first byte is at the lowest address, and the bits from `nbits` on are 0. -/
def decodeTableWord (nbits w : Nat) : Option Instr :=
  let v := BitVec.ofNat 24 (w % 2 ^ nbits)
  match decode [v.extractLsb' 0 8, v.extractLsb' 8 8, v.extractLsb' 16 8] with
  | .ok (i, _) => some i
  | .error _ => none

/-! ## Encoding -/

/-- The code of a register (R95). -/
def codeOfReg : Reg → BitVec 3
  | .b => 0b000
  | .c => 0b001
  | .d => 0b010
  | .e => 0b011
  | .h => 0b100
  | .l => 0b101
  | .a => 0b111

/-- The code of a register or M (R95, R97). -/
def codeOfLoc : Loc → BitVec 3
  | .reg r => codeOfReg r
  | .m => 0b110

/-- The code of a pair of LXI, DAD, INX and DCX (R96). -/
def codeOfPair : Pair → BitVec 2
  | .bc => 0b00
  | .de => 0b01
  | .hl => 0b10
  | .sp => 0b11

/-- The code of a pair of PUSH and POP (R96). -/
def codeOfStackPair : StackPair → BitVec 2
  | .bc => 0b00
  | .de => 0b01
  | .hl => 0b10
  | .psw => 0b11

/-- The code of a condition (R98). -/
def codeOfCond : Cond → BitVec 3
  | .nz => 0b000
  | .z => 0b001
  | .nc => 0b010
  | .c => 0b011
  | .po => 0b100
  | .pe => 0b101
  | .p => 0b110
  | .m => 0b111

/-- The opcode byte of an instruction (the map R105). -/
def opcode : Instr → Byte
  | .nop => 0x00
  | .lxiB _ => 0x01
  | .staxB => 0x02
  | .inxB => 0x03
  | .inrB => 0x04
  | .dcrB => 0x05
  | .mviB _ => 0x06
  | .rlc => 0x07
  | .undefNop ddd => (0b00#2 ++ ddd ++ 0b000#3 : BitVec 8)
  | .dadB => 0x09
  | .ldaxB => 0x0A
  | .dcxB => 0x0B
  | .inrC => 0x0C
  | .dcrC => 0x0D
  | .mviC _ => 0x0E
  | .rrc => 0x0F
  | .lxiD _ => 0x11
  | .staxD => 0x12
  | .inxD => 0x13
  | .inrD => 0x14
  | .dcrD => 0x15
  | .mviD _ => 0x16
  | .ral => 0x17
  | .dadD => 0x19
  | .ldaxD => 0x1A
  | .dcxD => 0x1B
  | .inrE => 0x1C
  | .dcrE => 0x1D
  | .mviE _ => 0x1E
  | .rar => 0x1F
  | .lxiH _ => 0x21
  | .shld _ => 0x22
  | .inxH => 0x23
  | .inrH => 0x24
  | .dcrH => 0x25
  | .mviH _ => 0x26
  | .daa => 0x27
  | .dadH => 0x29
  | .lhld _ => 0x2A
  | .dcxH => 0x2B
  | .inrL => 0x2C
  | .dcrL => 0x2D
  | .mviL _ => 0x2E
  | .cma => 0x2F
  | .lxiSp _ => 0x31
  | .sta _ => 0x32
  | .inxSp => 0x33
  | .inrM => 0x34
  | .dcrM => 0x35
  | .mviM _ => 0x36
  | .stc => 0x37
  | .dadSp => 0x39
  | .lda _ => 0x3A
  | .dcxSp => 0x3B
  | .inrA => 0x3C
  | .dcrA => 0x3D
  | .mviA _ => 0x3E
  | .cmc => 0x3F
  | .movBB => 0x40
  | .movBC => 0x41
  | .movBD => 0x42
  | .movBE => 0x43
  | .movBH => 0x44
  | .movBL => 0x45
  | .movBM => 0x46
  | .movBA => 0x47
  | .movCB => 0x48
  | .movCC => 0x49
  | .movCD => 0x4A
  | .movCE => 0x4B
  | .movCH => 0x4C
  | .movCL => 0x4D
  | .movCM => 0x4E
  | .movCA => 0x4F
  | .movDB => 0x50
  | .movDC => 0x51
  | .movDD => 0x52
  | .movDE => 0x53
  | .movDH => 0x54
  | .movDL => 0x55
  | .movDM => 0x56
  | .movDA => 0x57
  | .movEB => 0x58
  | .movEC => 0x59
  | .movED => 0x5A
  | .movEE => 0x5B
  | .movEH => 0x5C
  | .movEL => 0x5D
  | .movEM => 0x5E
  | .movEA => 0x5F
  | .movHB => 0x60
  | .movHC => 0x61
  | .movHD => 0x62
  | .movHE => 0x63
  | .movHH => 0x64
  | .movHL => 0x65
  | .movHM => 0x66
  | .movHA => 0x67
  | .movLB => 0x68
  | .movLC => 0x69
  | .movLD => 0x6A
  | .movLE => 0x6B
  | .movLH => 0x6C
  | .movLL => 0x6D
  | .movLM => 0x6E
  | .movLA => 0x6F
  | .movMB => 0x70
  | .movMC => 0x71
  | .movMD => 0x72
  | .movME => 0x73
  | .movMH => 0x74
  | .movML => 0x75
  | .hlt => 0x76
  | .movMA => 0x77
  | .movAB => 0x78
  | .movAC => 0x79
  | .movAD => 0x7A
  | .movAE => 0x7B
  | .movAH => 0x7C
  | .movAL => 0x7D
  | .movAM => 0x7E
  | .movAA => 0x7F
  | .addB => 0x80
  | .addC => 0x81
  | .addD => 0x82
  | .addE => 0x83
  | .addH => 0x84
  | .addL => 0x85
  | .addM => 0x86
  | .addA => 0x87
  | .adcB => 0x88
  | .adcC => 0x89
  | .adcD => 0x8A
  | .adcE => 0x8B
  | .adcH => 0x8C
  | .adcL => 0x8D
  | .adcM => 0x8E
  | .adcA => 0x8F
  | .subB => 0x90
  | .subC => 0x91
  | .subD => 0x92
  | .subE => 0x93
  | .subH => 0x94
  | .subL => 0x95
  | .subM => 0x96
  | .subA => 0x97
  | .sbbB => 0x98
  | .sbbC => 0x99
  | .sbbD => 0x9A
  | .sbbE => 0x9B
  | .sbbH => 0x9C
  | .sbbL => 0x9D
  | .sbbM => 0x9E
  | .sbbA => 0x9F
  | .anaB => 0xA0
  | .anaC => 0xA1
  | .anaD => 0xA2
  | .anaE => 0xA3
  | .anaH => 0xA4
  | .anaL => 0xA5
  | .anaM => 0xA6
  | .anaA => 0xA7
  | .xraB => 0xA8
  | .xraC => 0xA9
  | .xraD => 0xAA
  | .xraE => 0xAB
  | .xraH => 0xAC
  | .xraL => 0xAD
  | .xraM => 0xAE
  | .xraA => 0xAF
  | .oraB => 0xB0
  | .oraC => 0xB1
  | .oraD => 0xB2
  | .oraE => 0xB3
  | .oraH => 0xB4
  | .oraL => 0xB5
  | .oraM => 0xB6
  | .oraA => 0xB7
  | .cmpB => 0xB8
  | .cmpC => 0xB9
  | .cmpD => 0xBA
  | .cmpE => 0xBB
  | .cmpH => 0xBC
  | .cmpL => 0xBD
  | .cmpM => 0xBE
  | .cmpA => 0xBF
  | .rnz => 0xC0
  | .popB => 0xC1
  | .jnz _ => 0xC2
  | .jmp _ => 0xC3
  | .cnz _ => 0xC4
  | .pushB => 0xC5
  | .adi _ => 0xC6
  | .rst0 => 0xC7
  | .rz => 0xC8
  | .ret => 0xC9
  | .jz _ => 0xCA
  | .undefJmp _ => 0xCB
  | .cz _ => 0xCC
  | .call _ => 0xCD
  | .aci _ => 0xCE
  | .rst1 => 0xCF
  | .rnc => 0xD0
  | .popD => 0xD1
  | .jnc _ => 0xD2
  | .out _ => 0xD3
  | .cnc _ => 0xD4
  | .pushD => 0xD5
  | .sui _ => 0xD6
  | .rst2 => 0xD7
  | .rc => 0xD8
  | .undefRet => 0xD9
  | .jc _ => 0xDA
  | .inp _ => 0xDB
  | .cc _ => 0xDC
  | .undefCall sel _ => (0b11#2 ++ sel ++ 0b1101#4 : BitVec 8)
  | .sbi _ => 0xDE
  | .rst3 => 0xDF
  | .rpo => 0xE0
  | .popH => 0xE1
  | .jpo _ => 0xE2
  | .xthl => 0xE3
  | .cpo _ => 0xE4
  | .pushH => 0xE5
  | .ani _ => 0xE6
  | .rst4 => 0xE7
  | .rpe => 0xE8
  | .pchl => 0xE9
  | .jpe _ => 0xEA
  | .xchg => 0xEB
  | .cpe _ => 0xEC
  | .xri _ => 0xEE
  | .rst5 => 0xEF
  | .rp => 0xF0
  | .popPsw => 0xF1
  | .jp _ => 0xF2
  | .di => 0xF3
  | .cp _ => 0xF4
  | .pushPsw => 0xF5
  | .ori _ => 0xF6
  | .rst6 => 0xF7
  | .rm => 0xF8
  | .sphl => 0xF9
  | .jm _ => 0xFA
  | .ei => 0xFB
  | .cm _ => 0xFC
  | .cpi _ => 0xFE
  | .rst7 => 0xFF

/-- The operand bytes of an instruction, the low byte of a 16-bit operand first (R93, R94). -/
def operandBytes : Instr → List Byte
  | .nop | .staxB | .inxB | .inrB | .dcrB | .rlc | .undefNop _ | .dadB | .ldaxB | .dcxB | .inrC
  | .dcrC | .rrc | .staxD | .inxD | .inrD | .dcrD | .ral | .dadD | .ldaxD | .dcxD | .inrE
  | .dcrE | .rar | .inxH | .inrH | .dcrH | .daa | .dadH | .dcxH | .inrL | .dcrL | .cma | .inxSp
  | .inrM | .dcrM | .stc | .dadSp | .dcxSp | .inrA | .dcrA | .cmc | .movBB | .movBC | .movBD
  | .movBE | .movBH | .movBL | .movBM | .movBA | .movCB | .movCC | .movCD | .movCE | .movCH
  | .movCL | .movCM | .movCA | .movDB | .movDC | .movDD | .movDE | .movDH | .movDL | .movDM
  | .movDA | .movEB | .movEC | .movED | .movEE | .movEH | .movEL | .movEM | .movEA | .movHB
  | .movHC | .movHD | .movHE | .movHH | .movHL | .movHM | .movHA | .movLB | .movLC | .movLD
  | .movLE | .movLH | .movLL | .movLM | .movLA | .movMB | .movMC | .movMD | .movME | .movMH
  | .movML | .hlt | .movMA | .movAB | .movAC | .movAD | .movAE | .movAH | .movAL | .movAM
  | .movAA | .addB | .addC | .addD | .addE | .addH | .addL | .addM | .addA | .adcB | .adcC
  | .adcD | .adcE | .adcH | .adcL | .adcM | .adcA | .subB | .subC | .subD | .subE | .subH
  | .subL | .subM | .subA | .sbbB | .sbbC | .sbbD | .sbbE | .sbbH | .sbbL | .sbbM | .sbbA
  | .anaB | .anaC | .anaD | .anaE | .anaH | .anaL | .anaM | .anaA | .xraB | .xraC | .xraD
  | .xraE | .xraH | .xraL | .xraM | .xraA | .oraB | .oraC | .oraD | .oraE | .oraH | .oraL
  | .oraM | .oraA | .cmpB | .cmpC | .cmpD | .cmpE | .cmpH | .cmpL | .cmpM | .cmpA | .rnz
  | .popB | .pushB | .rst0 | .rz | .ret | .rst1 | .rnc | .popD | .pushD | .rst2 | .rc
  | .undefRet | .rst3 | .rpo | .popH | .xthl | .pushH | .rst4 | .rpe | .pchl | .xchg | .rst5
  | .rp | .popPsw | .di | .pushPsw | .rst6 | .rm | .sphl | .ei | .rst7 => []
  | .mviB v | .mviC v | .mviD v | .mviE v | .mviH v | .mviL v | .mviM v | .mviA v | .adi v
  | .aci v | .out v | .sui v | .inp v | .sbi v | .ani v | .xri v | .ori v | .cpi v => [v]
  | .lxiB w | .lxiD w | .lxiH w | .shld w | .lhld w | .lxiSp w | .sta w | .lda w | .jnz w
  | .jmp w | .cnz w | .jz w | .undefJmp w | .cz w | .call w | .jnc w | .cnc w | .jc w | .cc w
  | .undefCall _ w | .jpo w | .cpo w | .jpe w | .cpe w | .jp w | .cp w | .jm w | .cm w => [loByte w, hiByte w]

/-- The bytes of an instruction. -/
def encode (i : Instr) : List Byte := opcode i :: operandBytes i

end Sys2Proof
end

