-- ==== Sys2Proof/Machine/State.lean ====
section
/-! DEFINITION. What the machine is (10_state.md), why a step can stop, and the machine right after
construction (70_reset_and_hazards.md R370). State is plain data. -/

namespace Sys2Proof.Machine

/-- Why the machine stops with a fault. -/
inductive Fault where
  /-- The "opcode dispatch that cannot resolve" (60_exceptions.md R330). Raised by `executeOne` when the
  fetched bytes decode to no instruction, which no bytes do. Safe: nothing reaches it. Log 14. -/
  | unresolvedDispatch
deriving DecidableEq, Repr

/-- Why the model does not step. -/
inductive Refusal where
  /-- Raised by an arm of `exec` that has no meaning yet. Safe. No arm raises it. -/
  | notModelled (mnemonic : String)
  /-- Raised by `executeOne` when `UNDOC_MODE` is `refuse` and one of the twelve undefined bytes is
  fetched; it names the byte and its address (45_undocumented.md R325). Safe. Log 15. -/
  | undefinedOpcode (op : Byte) (addr : Word)
  /-- Raised by `hostMove` when the host calls `Run` while a run is in progress, which
  70_reset_and_hazards.md R371 forbids. Safe. Log 7. -/
  | runDuringRun
  /-- Raised by `hostMove` when the host attaches a port while a run is in progress: 60_exceptions.md
  R352 lists that action before `Run` only. Safe. Log 7. -/
  | attachDuringRun
deriving DecidableEq, Repr

/-- How an instruction or a step ends. -/
abbrev Result (σ : Type) := Host.Outcome σ Fault Refusal

/-- RUNSTATE (R40). The source's Halted is `running` with HALTED = 1. -/
inductive RunState where
  | idle
  | ready
  | running
  | stopped
deriving DecidableEq, Repr

/-- The five flags (R29 to R33): the contents of F without its fixed bits. -/
structure Flags where
  s : Bool
  z : Bool
  ac : Bool
  p : Bool
  cy : Bool
deriving DecidableEq, Repr

/-- A memory: the bytes that differ from what an unlisted address reads as, by rising address. -/
abbrev Memory := List Host.Cell

/-- A snapshot: CpuState, the first twelve rows of R41's table, and the memory image (70_reset_and_hazards.md
R373). Log 12. -/
structure Snapshot where
  a : Byte
  b : Byte
  c : Byte
  d : Byte
  e : Byte
  h : Byte
  l : Byte
  f : Byte
  sp : Word
  pc : Word
  ie : Bool
  mem : List Host.Cell
deriving DecidableEq, Repr

/-- What the host can do to the block: the rows of the table of 60_exceptions.md R352. `MemRead` is answered
by the Memory Port, `IORead` from `State.ioAnswers`; stop calling is no move. -/
inductive HostMove where
  /-- The answer to one poll of `ServiceInterrupts`. -/
  | answer (sig : Signal)
  /-- `SetMemoryController` with a port that holds `contents`, or with an empty controller. What the host puts
  into memory through its own port at boot (70_reset_and_hazards.md R374, step 2) is among the `contents`.
  DESIGN CHOICE, log 21. -/
  | attachMemory (contents : Option (List Host.Cell))
  /-- `SetIoController` with a port, or with an empty controller. -/
  | attachIo (nonEmpty : Bool)
  /-- `Run(startAddress)`. -/
  | run (start : Word)
  /-- The host saves a snapshot. -/
  | snapshotSave
  /-- The host loads a snapshot, whose format and version tag matches or not. -/
  | snapshotLoad (tagMatches : Bool) (snap : Snapshot)
deriving DecidableEq, Repr

/-- The state of the block (R41), its parameters, and the model's own account of the host. -/
structure State where
  /-- The general registers (R20). -/
  a : Byte
  b : Byte
  c : Byte
  d : Byte
  e : Byte
  h : Byte
  l : Byte
  /-- The flag byte (R27), fixed bits included. -/
  f : Byte
  sp : Word
  pc : Word
  /-- The interrupt-enable flag (R35). -/
  ie : Bool
  /-- The EI window (R38). -/
  inhibit : Bool
  /-- The halted state (R37). -/
  halted : Bool
  /-- CYCLES and INSTRS (R39). -/
  cycles : Nat
  instrs : Nat
  runState : RunState
  /-- The last byte written at each address (20_memory.md R60, R61). -/
  mem : Memory
  /-- Which ports are attached (R40). -/
  memAttached : Bool
  ioAttached : Bool
  /-- The parameters (00_scope.md R5); no step writes them. -/
  params : Params
  /-- The MODEL's own: the host's coming moves, oldest first. Past its end a poll is answered by the free
  value `Config.pollDraw`. Log 5. -/
  host : List HostMove
  /-- The MODEL's own: the host's coming answers to `IORead`, oldest first. Log 9. -/
  ioAnswers : List Byte
  /-- The MODEL's own: the calls the I/O Port has seen, newest first. Log 10. -/
  ioLog : List IoEvent
  /-- The MODEL's own: the number of the iteration, which numbers the free values. Log 11. -/
  iteration : Nat
deriving DecidableEq, Repr

/-- Construction (70_reset_and_hazards.md R370), for every value of the parameters. The fixed bits of F
are 0, 0 and 1 whatever `INIT_STATE` says (R28). -/
def State.construct (params : Params) (init : InitState) : State where
  a := init.a
  b := init.b
  c := init.c
  d := init.d
  e := init.e
  h := init.h
  l := init.l
  f := (init.f &&& 0xD7) ||| 0x02
  sp := init.sp
  pc := init.pc
  ie := false
  inhibit := false
  halted := false
  cycles := 0
  instrs := 0
  runState := .idle
  mem := []
  memAttached := false
  ioAttached := false
  params := params
  host := []
  ioAnswers := []
  ioLog := []
  iteration := 0

/-- The machine right after construction, with the reference parameters (log 4), registers and flags
zero (log 1), and no host move listed (log 5). -/
def State.reset : State := State.construct Params.reference InitState.zero

end Sys2Proof.Machine
end

