-- ==== Sys2Proof/Machine/Flags.lean ====
section
/-! DEFINITION. The flag byte's layout (10_state.md R27, R28), the flag computations and the ALU
primitives (41_arithmetic.md R170 to R172), and the conditions (30_encoding.md R98). -/

namespace Sys2Proof.Machine

/-- `S Z 0 AC 0 P 1 CY`, bit 7 to bit 0 (R27, R28). -/
def Flags.pack (fl : Flags) : Byte :=
  (BitVec.ofBool fl.s ++ BitVec.ofBool fl.z ++ 0#1 ++ BitVec.ofBool fl.ac ++ 0#1
    ++ BitVec.ofBool fl.p ++ 1#1 ++ BitVec.ofBool fl.cy : BitVec 8)

/-- The five flags of a flag byte (R27). -/
def Flags.unpack (f : Byte) : Flags where
  s := f.getLsbD 7
  z := f.getLsbD 6
  ac := f.getLsbD 4
  p := f.getLsbD 2
  cy := f.getLsbD 0

/-- What a write of the byte `v` to F stores (R28): bits 5, 3 and 1 are fixed. -/
def pinFlagByte (v : Byte) : Byte := (v &&& 0xD7) ||| 0x02

/-- The flags of a state. -/
def State.flags (s : State) : Flags := Flags.unpack s.f

/-- Write the five flags; the fixed bits are pinned again (R28). -/
def State.putFlags (s : State) (fl : Flags) : State := { s with f := fl.pack }

/-- Write CY alone (R34). -/
def State.putCy (s : State) (cy : Bool) : State := s.putFlags { s.flags with cy := cy }

/-- `parity_even(v)` (00_scope.md R8): an even number of 1 bits. -/
def parityEven (v : Byte) : Bool :=
  ((v.getLsbD 0).toNat + (v.getLsbD 1).toNat + (v.getLsbD 2).toNat + (v.getLsbD 3).toNat
    + (v.getLsbD 4).toNat + (v.getLsbD 5).toNat + (v.getLsbD 6).toNat + (v.getLsbD 7).toNat) % 2 == 0

/-- `SetSZP(v)` (R170). -/
def Flags.setSZP (fl : Flags) (v : Byte) : Flags :=
  { fl with s := v.getLsbD 7, z := decide (v = 0), p := parityEven v }

/-- An 8-bit result with its carry (or borrow) and its auxiliary carry. -/
structure AluResult where
  res : Byte
  cy : Bool
  ac : Bool
deriving DecidableEq, Repr

/-- `Add8(a, b, c)` (R171), over exact naturals. -/
def add8 (a b : Byte) (c : Bool) : AluResult where
  res := BitVec.ofNat 8 (a.toNat + b.toNat + c.toNat)
  cy := decide (a.toNat + b.toNat + c.toNat > 255)
  ac := decide (a.toNat % 16 + b.toNat % 16 + c.toNat > 15)

/-- `Sub8(a, b, bw)` (R172): the addition of the complement, over exact naturals. CY is the borrow, AC
the carry out of bit 3 of that addition. -/
def sub8 (a b : Byte) (bw : Bool) : AluResult where
  res := BitVec.ofNat 8 (a.toNat + (~~~b).toNat + (1 - bw.toNat))
  cy := !decide (a.toNat + (~~~b).toNat + (1 - bw.toNat) > 255)
  ac := decide (a.toNat % 16 + (~~~b).toNat % 16 + (1 - bw.toNat) > 15)

/-- All five flags from a result (R173 and the rules like it): `SetSZP`, CY and AC. -/
def AluResult.flags (r : AluResult) (fl : Flags) : Flags :=
  { fl.setSZP r.res with cy := r.cy, ac := r.ac }

/-- The flags of INR and DCR (R185, R187): all but CY. -/
def AluResult.flagsKeepCy (r : AluResult) (fl : Flags) : Flags :=
  { fl.setSZP r.res with ac := r.ac }

/-- `Cond(ccc)` (R98). -/
def condHolds (cond : Cond) (fl : Flags) : Bool :=
  match cond with
  | .nz => !fl.z
  | .z => fl.z
  | .nc => !fl.cy
  | .c => fl.cy
  | .po => !fl.p
  | .pe => fl.p
  | .p => !fl.s
  | .m => fl.s

end Sys2Proof.Machine
end

