-- ==== Sys2Proof/Machine/Memory.lean ====
section
/-! DEFINITION. Plain RAM (20_memory.md R60, R61): a list of (address, byte) pairs in one canonical form,
addresses strictly rising and no entry equal to what an unlisted address reads as. -/

namespace Sys2Proof.Machine

/-- What an address reads as that nothing has written. DESIGN CHOICE, log 2. -/
def Memory.unlisted : Byte := 0x00

/-- The byte listed at key `k`, or the unlisted byte. -/
def Memory.lookup (k : Nat) : Memory → Byte
  | [] => Memory.unlisted
  | (k', v) :: rest => if k = k' then v else Memory.lookup k rest

/-- Put `v` in front of the memory at key `k`, unless that is what `k` reads as anyway. -/
def Memory.cons (k : Nat) (v : Byte) (m : Memory) : Memory :=
  if v = Memory.unlisted then m else (k, v) :: m

/-- Replace or add the byte at key `k`. -/
def Memory.insert (k : Nat) (v : Byte) : Memory → Memory
  | [] => Memory.cons k v []
  | (k', v') :: rest =>
    if k < k' then Memory.cons k v ((k', v') :: rest)
    else if k = k' then Memory.cons k v rest
    else (k', v') :: Memory.insert k v rest

/-- `Mem[a]` (R60). -/
def Memory.read (m : Memory) (a : Word) : Byte := Memory.lookup a.toNat m

/-- `Mem[a] <- v` (R61). -/
def Memory.write (m : Memory) (a : Word) (v : Byte) : Memory := Memory.insert a.toNat v m

/-- The memory that holds the listed bytes, a later one over an earlier one. Addresses wrap (R78, log 18). -/
def Memory.ofCells (cells : List Host.Cell) : Memory :=
  cells.foldl (fun m cell => Memory.write m (BitVec.ofNat 16 cell.1) cell.2) []

/-- The canonical form of a list whose keys are at least `lo`. -/
def Memory.wfFrom (lo : Nat) : Memory → Bool
  | [] => true
  | (k, v) :: rest =>
    decide (lo ≤ k) && decide (k < 65536) && decide (v ≠ Memory.unlisted) && Memory.wfFrom (k + 1) rest

/-- The canonical form. -/
def Memory.wf (m : Memory) : Bool := Memory.wfFrom 0 m

end Sys2Proof.Machine
end

