-- ==== Sys2Proof/Machine/Ops.lean ====
section
/-! DEFINITION. The named operations over registers, memory, the stack and the I/O space, and taking an
interrupt. -/

namespace Sys2Proof.Machine

/-! ## Registers and pairs (10_state.md R20, R22) -/

/-- Read a general register. -/
def State.reg (s : State) (r : Reg) : Byte :=
  match r with
  | .b => s.b
  | .c => s.c
  | .d => s.d
  | .e => s.e
  | .h => s.h
  | .l => s.l
  | .a => s.a

/-- Write a general register. -/
def State.setReg (s : State) (r : Reg) (v : Byte) : State :=
  match r with
  | .b => { s with b := v }
  | .c => { s with c := v }
  | .d => { s with d := v }
  | .e => { s with e := v }
  | .h => { s with h := v }
  | .l => { s with l := v }
  | .a => { s with a := v }

/-- HL, the memory pointer (R24). -/
def State.hl (s : State) : Word := joinBytes s.h s.l

/-- `RPRead` of LXI, DAD, INX and DCX (R22, 30_encoding.md R96). -/
def State.pair (s : State) (rp : Pair) : Word :=
  match rp with
  | .bc => joinBytes s.b s.c
  | .de => joinBytes s.d s.e
  | .hl => joinBytes s.h s.l
  | .sp => s.sp

/-- `RPWrite` of LXI, DAD, INX and DCX: the first-named register takes the high byte (R22). -/
def State.setPair (s : State) (rp : Pair) (v : Word) : State :=
  match rp with
  | .bc => { s with b := hiByte v, c := loByte v }
  | .de => { s with d := hiByte v, e := loByte v }
  | .hl => { s with h := hiByte v, l := loByte v }
  | .sp => { s with sp := v }

/-! ## Memory (20_memory.md R60 to R66) -/

/-- `MemRead(a, 1)` (R60): the last byte written, from plain RAM; any byte, from another port (R73). -/
def State.read (s : State) (acc : Access) (a : Word) : Byte :=
  match s.params.memPort with
  | .ram => s.mem.read a
  | .draws => Config.memDraw s.iteration acc s.mem s.ioLog a

/-- `MemWrite(a, 1, v)` (R61). -/
def State.write (s : State) (a : Word) (v : Byte) : State :=
  { s with mem := s.mem.write a v }

/-- `Read16(a)` by the operation of an instruction (R63). -/
def State.read16 (s : State) (a : Word) : Word :=
  joinBytes (s.read .data2 (a + 1)) (s.read .data1 a)

/-- `Write16(a, v)` (R64). -/
def State.write16 (s : State) (a : Word) (v : Word) : State :=
  (s.write a (loByte v)).write (a + 1) (hiByte v)

/-- One half of a push: SP goes down by one and the byte is written there (R65). -/
def State.pushByte (s : State) (v : Byte) : State :=
  { s with sp := s.sp - 1, mem := s.mem.write (s.sp - 1) v }

/-- `Push16(v)` (R65): the high byte first. -/
def State.push16 (s : State) (v : Word) : State :=
  (s.pushByte (hiByte v)).pushByte (loByte v)

/-- `Pop16()` (R66): the popped word, and the state with SP moved up. -/
def State.pop16 (s : State) : Word × State :=
  (s.read16 s.sp, { s with sp := s.sp + 2 })

/-! ## Input and output (20_memory.md R62) -/

/-- The byte the host answers to `IORead(port)`: the next listed answer, or any byte. Log 9. -/
def State.ioAnswer (s : State) (port : Byte) : Byte :=
  match s.ioAnswers with
  | v :: _ => v
  | [] => Config.ioDraw s.iteration s.ioLog port

/-- The state after `IORead(port)`: the answer is used up and the call is on record. -/
def State.afterIoRead (s : State) (port : Byte) : State :=
  { s with ioAnswers := s.ioAnswers.tail, ioLog := .read port (s.ioAnswer port) :: s.ioLog }

/-- The answer to a poll of `ServiceInterrupts` for which no host move is listed: any signal
(60_exceptions.md R332). Log 5. -/
def State.pollAnswer (s : State) : Signal := Config.pollDraw s.iteration s.cycles s.mem s.ioLog

/-- `IOWrite(port, v)`. -/
def State.ioWrite (s : State) (port v : Byte) : State :=
  { s with ioLog := .write port v :: s.ioLog }

/-! ## Taking an interrupt, and returning (60_exceptions.md R341, R345) -/

/-- The restart address of n: `zext_16(n) * 8` (R100, R341). -/
def restartVector (n : BitVec 3) : Word := n.setWidth 16 * 8

/-- `InterruptEntry(n)` (R341). Nothing but PC is saved. -/
def State.interruptEntry (s : State) (n : BitVec 3) : State :=
  let t := s.push16 s.pc
  { t with pc := restartVector n, ie := false, halted := false, cycles := t.cycles + 11 }

/-- `PC <- Pop16()`: the one return there is, from a subroutine or a handler (R265, R345). -/
def State.popPc (s : State) : State :=
  { (s.pop16).2 with pc := (s.pop16).1 }

end Sys2Proof.Machine
end

