-- ==== Sys2Proof/Machine/Operands.lean ====
section
/-! DEFINITION. The operand forms: register or M (30_encoding.md R95, R97), the pairs of LDAX and STAX and
of PUSH and POP (R96). -/

namespace Sys2Proof.Machine

/-- `Reg8Read(c)` (R95, R97). -/
def State.loc (s : State) (l : Loc) : Byte :=
  match l with
  | .reg r => s.reg r
  | .m => s.read .data1 s.hl

/-- `Reg8Write(c, v)` (R95, R97): HL is read before anything is written. -/
def State.setLoc (s : State) (l : Loc) (v : Byte) : State :=
  match l with
  | .reg r => s.setReg r v
  | .m => s.write s.hl v

/-- The pointer of LDAX and STAX (R96). -/
def State.index (s : State) (rp : IndexPair) : Word :=
  match rp with
  | .bc => s.pair .bc
  | .de => s.pair .de

/-- What PUSH pushes (R96): PSW is `A ++ F` (10_state.md R23). -/
def State.stackPair (s : State) (rp : StackPair) : Word :=
  match rp with
  | .bc => s.pair .bc
  | .de => s.pair .de
  | .hl => s.pair .hl
  | .psw => joinBytes s.a s.f

/-- Where POP puts the popped word (R96); a write of F pins its fixed bits (44_stack_io_control.md R293). -/
def State.setStackPair (s : State) (rp : StackPair) (v : Word) : State :=
  match rp with
  | .bc => s.setPair .bc v
  | .de => s.setPair .de v
  | .hl => s.setPair .hl v
  | .psw => { s with a := hiByte v, f := pinFlagByte (loByte v) }

end Sys2Proof.Machine
end

