-- ==== Sys2Proof/Machine/Arithmetic.lean ====
section
/-! DEFINITION. The arithmetic group (41_arithmetic.md R173 to R193). Each rule is one shared
operation; each instruction is that operation on its own operands. -/

namespace Sys2Proof.Machine

/-! ## Operations -/

/-- ADD and ADC (R173 to R178): A, the operand and the carry-in. -/
def opAdd (v : Byte) (carry : Bool) (s : State) : State :=
  { s.putFlags ((add8 s.a v carry).flags s.flags) with a := (add8 s.a v carry).res }

/-- SUB and SBB (R179 to R184): A, the operand and the borrow-in. -/
def opSub (v : Byte) (borrow : Bool) (s : State) : State :=
  { s.putFlags ((sub8 s.a v borrow).flags s.flags) with a := (sub8 s.a v borrow).res }

/-- INR (R185, R186): CY is kept. -/
def opInr (d : Loc) (s : State) : State :=
  (s.setLoc d (add8 (s.loc d) 1 false).res).putFlags ((add8 (s.loc d) 1 false).flagsKeepCy s.flags)

/-- DCR (R187, R188): CY is kept. -/
def opDcr (d : Loc) (s : State) : State :=
  (s.setLoc d (sub8 (s.loc d) 1 false).res).putFlags ((sub8 (s.loc d) 1 false).flagsKeepCy s.flags)

/-- INX (R189): no flag. -/
def opInx (rp : Pair) (s : State) : State := s.setPair rp (s.pair rp + 1)

/-- DCX (R190): no flag. -/
def opDcx (rp : Pair) (s : State) : State := s.setPair rp (s.pair rp - 1)

/-- DAD (R191): CY is the carry out of bit 15. -/
def opDad (rp : Pair) (s : State) : State :=
  (s.setPair .hl (s.hl + s.pair rp)).putCy (decide (s.hl.toNat + (s.pair rp).toNat > 65535))

/-- Whether DAA corrects the low digit (R192). -/
def daaLow (a : Byte) (fl : Flags) : Bool := fl.ac || decide (a.toNat % 16 > 9)

/-- Whether DAA corrects the high digit (R192). -/
def daaHigh (a : Byte) (fl : Flags) : Bool :=
  fl.cy || decide (a.toNat / 16 > 9) || (decide (a.toNat / 16 ≥ 9) && decide (a.toNat % 16 > 9))

/-- What DAA adds (R192). -/
def daaCorrection (a : Byte) (fl : Flags) : Byte :=
  (if daaLow a fl then 0x06 else 0x00) ||| (if daaHigh a fl then 0x60 else 0x00)

/-- DAA (R192): AC from the addition of the correction, CY set by the high correction and else kept. -/
def opDaa (s : State) : State :=
  let r := add8 s.a (daaCorrection s.a s.flags) false
  { s.putFlags { r.flags s.flags with cy := daaHigh s.a s.flags || s.flags.cy } with a := r.res }

/-! ## Instructions -/

/-- INX B (R189). -/
def execInxB (s : State) : Result State :=
  .next (opInx .bc s)

/-- INR B (R185). -/
def execInrB (s : State) : Result State :=
  .next (opInr (.reg .b) s)

/-- DCR B (R187). -/
def execDcrB (s : State) : Result State :=
  .next (opDcr (.reg .b) s)

/-- DAD B (R191). -/
def execDadB (s : State) : Result State :=
  .next (opDad .bc s)

/-- DCX B (R190). -/
def execDcxB (s : State) : Result State :=
  .next (opDcx .bc s)

/-- INR C (R185). -/
def execInrC (s : State) : Result State :=
  .next (opInr (.reg .c) s)

/-- DCR C (R187). -/
def execDcrC (s : State) : Result State :=
  .next (opDcr (.reg .c) s)

/-- INX D (R189). -/
def execInxD (s : State) : Result State :=
  .next (opInx .de s)

/-- INR D (R185). -/
def execInrD (s : State) : Result State :=
  .next (opInr (.reg .d) s)

/-- DCR D (R187). -/
def execDcrD (s : State) : Result State :=
  .next (opDcr (.reg .d) s)

/-- DAD D (R191). -/
def execDadD (s : State) : Result State :=
  .next (opDad .de s)

/-- DCX D (R190). -/
def execDcxD (s : State) : Result State :=
  .next (opDcx .de s)

/-- INR E (R185). -/
def execInrE (s : State) : Result State :=
  .next (opInr (.reg .e) s)

/-- DCR E (R187). -/
def execDcrE (s : State) : Result State :=
  .next (opDcr (.reg .e) s)

/-- INX H (R189). -/
def execInxH (s : State) : Result State :=
  .next (opInx .hl s)

/-- INR H (R185). -/
def execInrH (s : State) : Result State :=
  .next (opInr (.reg .h) s)

/-- DCR H (R187). -/
def execDcrH (s : State) : Result State :=
  .next (opDcr (.reg .h) s)

/-- DAA (R192). -/
def execDaa (s : State) : Result State :=
  .next (opDaa s)

/-- DAD H (R191). -/
def execDadH (s : State) : Result State :=
  .next (opDad .hl s)

/-- DCX H (R190). -/
def execDcxH (s : State) : Result State :=
  .next (opDcx .hl s)

/-- INR L (R185). -/
def execInrL (s : State) : Result State :=
  .next (opInr (.reg .l) s)

/-- DCR L (R187). -/
def execDcrL (s : State) : Result State :=
  .next (opDcr (.reg .l) s)

/-- INX SP (R189). -/
def execInxSp (s : State) : Result State :=
  .next (opInx .sp s)

/-- INR M (R186). -/
def execInrM (s : State) : Result State :=
  .next (opInr .m s)

/-- DCR M (R188). -/
def execDcrM (s : State) : Result State :=
  .next (opDcr .m s)

/-- DAD SP (R191). -/
def execDadSp (s : State) : Result State :=
  .next (opDad .sp s)

/-- DCX SP (R190). -/
def execDcxSp (s : State) : Result State :=
  .next (opDcx .sp s)

/-- INR A (R185). -/
def execInrA (s : State) : Result State :=
  .next (opInr (.reg .a) s)

/-- DCR A (R187). -/
def execDcrA (s : State) : Result State :=
  .next (opDcr (.reg .a) s)

/-- ADD B (R173). -/
def execAddB (s : State) : Result State :=
  .next (opAdd (s.loc (.reg .b)) false s)

/-- ADD C (R173). -/
def execAddC (s : State) : Result State :=
  .next (opAdd (s.loc (.reg .c)) false s)

/-- ADD D (R173). -/
def execAddD (s : State) : Result State :=
  .next (opAdd (s.loc (.reg .d)) false s)

/-- ADD E (R173). -/
def execAddE (s : State) : Result State :=
  .next (opAdd (s.loc (.reg .e)) false s)

/-- ADD H (R173). -/
def execAddH (s : State) : Result State :=
  .next (opAdd (s.loc (.reg .h)) false s)

/-- ADD L (R173). -/
def execAddL (s : State) : Result State :=
  .next (opAdd (s.loc (.reg .l)) false s)

/-- ADD M (R174). -/
def execAddM (s : State) : Result State :=
  .next (opAdd (s.loc .m) false s)

/-- ADD A (R173). -/
def execAddA (s : State) : Result State :=
  .next (opAdd (s.loc (.reg .a)) false s)

/-- ADC B (R176). -/
def execAdcB (s : State) : Result State :=
  .next (opAdd (s.loc (.reg .b)) s.flags.cy s)

/-- ADC C (R176). -/
def execAdcC (s : State) : Result State :=
  .next (opAdd (s.loc (.reg .c)) s.flags.cy s)

/-- ADC D (R176). -/
def execAdcD (s : State) : Result State :=
  .next (opAdd (s.loc (.reg .d)) s.flags.cy s)

/-- ADC E (R176). -/
def execAdcE (s : State) : Result State :=
  .next (opAdd (s.loc (.reg .e)) s.flags.cy s)

/-- ADC H (R176). -/
def execAdcH (s : State) : Result State :=
  .next (opAdd (s.loc (.reg .h)) s.flags.cy s)

/-- ADC L (R176). -/
def execAdcL (s : State) : Result State :=
  .next (opAdd (s.loc (.reg .l)) s.flags.cy s)

/-- ADC M (R177). -/
def execAdcM (s : State) : Result State :=
  .next (opAdd (s.loc .m) s.flags.cy s)

/-- ADC A (R176). -/
def execAdcA (s : State) : Result State :=
  .next (opAdd (s.loc (.reg .a)) s.flags.cy s)

/-- SUB B (R179). -/
def execSubB (s : State) : Result State :=
  .next (opSub (s.loc (.reg .b)) false s)

/-- SUB C (R179). -/
def execSubC (s : State) : Result State :=
  .next (opSub (s.loc (.reg .c)) false s)

/-- SUB D (R179). -/
def execSubD (s : State) : Result State :=
  .next (opSub (s.loc (.reg .d)) false s)

/-- SUB E (R179). -/
def execSubE (s : State) : Result State :=
  .next (opSub (s.loc (.reg .e)) false s)

/-- SUB H (R179). -/
def execSubH (s : State) : Result State :=
  .next (opSub (s.loc (.reg .h)) false s)

/-- SUB L (R179). -/
def execSubL (s : State) : Result State :=
  .next (opSub (s.loc (.reg .l)) false s)

/-- SUB M (R180). -/
def execSubM (s : State) : Result State :=
  .next (opSub (s.loc .m) false s)

/-- SUB A (R179). -/
def execSubA (s : State) : Result State :=
  .next (opSub (s.loc (.reg .a)) false s)

/-- SBB B (R182). -/
def execSbbB (s : State) : Result State :=
  .next (opSub (s.loc (.reg .b)) s.flags.cy s)

/-- SBB C (R182). -/
def execSbbC (s : State) : Result State :=
  .next (opSub (s.loc (.reg .c)) s.flags.cy s)

/-- SBB D (R182). -/
def execSbbD (s : State) : Result State :=
  .next (opSub (s.loc (.reg .d)) s.flags.cy s)

/-- SBB E (R182). -/
def execSbbE (s : State) : Result State :=
  .next (opSub (s.loc (.reg .e)) s.flags.cy s)

/-- SBB H (R182). -/
def execSbbH (s : State) : Result State :=
  .next (opSub (s.loc (.reg .h)) s.flags.cy s)

/-- SBB L (R182). -/
def execSbbL (s : State) : Result State :=
  .next (opSub (s.loc (.reg .l)) s.flags.cy s)

/-- SBB M (R183). -/
def execSbbM (s : State) : Result State :=
  .next (opSub (s.loc .m) s.flags.cy s)

/-- SBB A (R182). -/
def execSbbA (s : State) : Result State :=
  .next (opSub (s.loc (.reg .a)) s.flags.cy s)

/-- ADI d8 (R175). -/
def execAdi (imm8 : Byte) (s : State) : Result State :=
  .next (opAdd imm8 false s)

/-- ACI d8 (R178). -/
def execAci (imm8 : Byte) (s : State) : Result State :=
  .next (opAdd imm8 s.flags.cy s)

/-- SUI d8 (R181). -/
def execSui (imm8 : Byte) (s : State) : Result State :=
  .next (opSub imm8 false s)

/-- SBI d8 (R184). -/
def execSbi (imm8 : Byte) (s : State) : Result State :=
  .next (opSub imm8 s.flags.cy s)

end Sys2Proof.Machine
end

