-- ==== Sys2Proof/Machine/Branch.lean ====
section
/-! DEFINITION. The branch group (43_branch.md R260 to R268). PC already holds the address of the next
sequential instruction (60_exceptions.md R342). No flag is written. -/

namespace Sys2Proof.Machine

/-! ## Operations -/

/-- JMP (R261). -/
def opJump (addr : Word) (s : State) : State := { s with pc := addr }

/-- CALL (R263): the return address is PC. -/
def opCall (addr : Word) (s : State) : State := { s.push16 s.pc with pc := addr }

/-- RET (R265). -/
def opRet (s : State) : State := s.popPc

/-- Jccc (R262). -/
def opJumpIf (cond : Cond) (addr : Word) (s : State) : State :=
  if condHolds cond s.flags then opJump addr s else s

/-- Cccc (R264). -/
def opCallIf (cond : Cond) (addr : Word) (s : State) : State :=
  if condHolds cond s.flags then opCall addr s else s

/-- Rccc (R266). -/
def opRetIf (cond : Cond) (s : State) : State :=
  if condHolds cond s.flags then opRet s else s

/-- RST (R268): a call of the restart address; IE stays. -/
def opRst (n : BitVec 3) (s : State) : State := opCall (restartVector n) s

/-! ## Instructions -/

/-- RNZ (R266). -/
def execRnz (s : State) : Result State :=
  .next (opRetIf .nz s)

/-- JNZ a16 (R262). -/
def execJnz (addr : Word) (s : State) : Result State :=
  .next (opJumpIf .nz addr s)

/-- JMP a16 (R261). -/
def execJmp (addr : Word) (s : State) : Result State :=
  .next (opJump addr s)

/-- CNZ a16 (R264). -/
def execCnz (addr : Word) (s : State) : Result State :=
  .next (opCallIf .nz addr s)

/-- RST 0 (R268). -/
def execRst0 (s : State) : Result State :=
  .next (opRst 0 s)

/-- RZ (R266). -/
def execRz (s : State) : Result State :=
  .next (opRetIf .z s)

/-- RET (R265). -/
def execRet (s : State) : Result State :=
  .next (opRet s)

/-- JZ a16 (R262). -/
def execJz (addr : Word) (s : State) : Result State :=
  .next (opJumpIf .z addr s)

/-- CZ a16 (R264). -/
def execCz (addr : Word) (s : State) : Result State :=
  .next (opCallIf .z addr s)

/-- CALL a16 (R263). -/
def execCall (addr : Word) (s : State) : Result State :=
  .next (opCall addr s)

/-- RST 1 (R268). -/
def execRst1 (s : State) : Result State :=
  .next (opRst 1 s)

/-- RNC (R266). -/
def execRnc (s : State) : Result State :=
  .next (opRetIf .nc s)

/-- JNC a16 (R262). -/
def execJnc (addr : Word) (s : State) : Result State :=
  .next (opJumpIf .nc addr s)

/-- CNC a16 (R264). -/
def execCnc (addr : Word) (s : State) : Result State :=
  .next (opCallIf .nc addr s)

/-- RST 2 (R268). -/
def execRst2 (s : State) : Result State :=
  .next (opRst 2 s)

/-- RC (R266). -/
def execRc (s : State) : Result State :=
  .next (opRetIf .c s)

/-- JC a16 (R262). -/
def execJc (addr : Word) (s : State) : Result State :=
  .next (opJumpIf .c addr s)

/-- CC a16 (R264). -/
def execCc (addr : Word) (s : State) : Result State :=
  .next (opCallIf .c addr s)

/-- RST 3 (R268). -/
def execRst3 (s : State) : Result State :=
  .next (opRst 3 s)

/-- RPO (R266). -/
def execRpo (s : State) : Result State :=
  .next (opRetIf .po s)

/-- JPO a16 (R262). -/
def execJpo (addr : Word) (s : State) : Result State :=
  .next (opJumpIf .po addr s)

/-- CPO a16 (R264). -/
def execCpo (addr : Word) (s : State) : Result State :=
  .next (opCallIf .po addr s)

/-- RST 4 (R268). -/
def execRst4 (s : State) : Result State :=
  .next (opRst 4 s)

/-- RPE (R266). -/
def execRpe (s : State) : Result State :=
  .next (opRetIf .pe s)

/-- PCHL (R267). -/
def execPchl (s : State) : Result State :=
  .next (opJump s.hl s)

/-- JPE a16 (R262). -/
def execJpe (addr : Word) (s : State) : Result State :=
  .next (opJumpIf .pe addr s)

/-- CPE a16 (R264). -/
def execCpe (addr : Word) (s : State) : Result State :=
  .next (opCallIf .pe addr s)

/-- RST 5 (R268). -/
def execRst5 (s : State) : Result State :=
  .next (opRst 5 s)

/-- RP (R266). -/
def execRp (s : State) : Result State :=
  .next (opRetIf .p s)

/-- JP a16 (R262). -/
def execJp (addr : Word) (s : State) : Result State :=
  .next (opJumpIf .p addr s)

/-- CP a16 (R264). -/
def execCp (addr : Word) (s : State) : Result State :=
  .next (opCallIf .p addr s)

/-- RST 6 (R268). -/
def execRst6 (s : State) : Result State :=
  .next (opRst 6 s)

/-- RM (R266). -/
def execRm (s : State) : Result State :=
  .next (opRetIf .m s)

/-- JM a16 (R262). -/
def execJm (addr : Word) (s : State) : Result State :=
  .next (opJumpIf .m addr s)

/-- CM a16 (R264). -/
def execCm (addr : Word) (s : State) : Result State :=
  .next (opCallIf .m addr s)

/-- RST 7 (R268). -/
def execRst7 (s : State) : Result State :=
  .next (opRst 7 s)

end Sys2Proof.Machine
end

