-- ==== Sys2Proof/Machine/DataTransfer.lean ====
section
/-! DEFINITION. The data transfer group (40_data_transfer.md R130 to R142). Each rule is one shared
operation; each instruction is that operation on its own operands. No flag is written. -/

namespace Sys2Proof.Machine

/-! ## Operations -/

/-- MOV (R130, R131, R132). -/
def opMov (d src : Loc) (s : State) : State := s.setLoc d (s.loc src)

/-- MVI (R133, R134). -/
def opMvi (d : Loc) (imm8 : Byte) (s : State) : State := s.setLoc d imm8

/-- LXI (R135). -/
def opLxi (rp : Pair) (imm16 : Word) (s : State) : State := s.setPair rp imm16

/-- `A <- MemRead(addr, 1)`: LDA and LDAX (R136, R140). -/
def opLoadA (addr : Word) (s : State) : State := { s with a := s.read .data1 addr }

/-- `MemWrite(addr, 1, A)`: STA and STAX (R137, R141). -/
def opStoreA (addr : Word) (s : State) : State := s.write addr s.a

/-- LHLD (R138). -/
def opLhld (addr : Word) (s : State) : State := s.setPair .hl (s.read16 addr)

/-- SHLD (R139). -/
def opShld (addr : Word) (s : State) : State := s.write16 addr s.hl

/-- XCHG (R142). -/
def opXchg (s : State) : State := { s with h := s.d, l := s.e, d := s.h, e := s.l }

/-! ## Instructions -/

/-- LXI B,d16 (R135). -/
def execLxiB (imm16 : Word) (s : State) : Result State :=
  .next (opLxi .bc imm16 s)

/-- STAX B (R141). -/
def execStaxB (s : State) : Result State :=
  .next (opStoreA (s.index .bc) s)

/-- MVI B,d8 (R133). -/
def execMviB (imm8 : Byte) (s : State) : Result State :=
  .next (opMvi (.reg .b) imm8 s)

/-- LDAX B (R140). -/
def execLdaxB (s : State) : Result State :=
  .next (opLoadA (s.index .bc) s)

/-- MVI C,d8 (R133). -/
def execMviC (imm8 : Byte) (s : State) : Result State :=
  .next (opMvi (.reg .c) imm8 s)

/-- LXI D,d16 (R135). -/
def execLxiD (imm16 : Word) (s : State) : Result State :=
  .next (opLxi .de imm16 s)

/-- STAX D (R141). -/
def execStaxD (s : State) : Result State :=
  .next (opStoreA (s.index .de) s)

/-- MVI D,d8 (R133). -/
def execMviD (imm8 : Byte) (s : State) : Result State :=
  .next (opMvi (.reg .d) imm8 s)

/-- LDAX D (R140). -/
def execLdaxD (s : State) : Result State :=
  .next (opLoadA (s.index .de) s)

/-- MVI E,d8 (R133). -/
def execMviE (imm8 : Byte) (s : State) : Result State :=
  .next (opMvi (.reg .e) imm8 s)

/-- LXI H,d16 (R135). -/
def execLxiH (imm16 : Word) (s : State) : Result State :=
  .next (opLxi .hl imm16 s)

/-- SHLD a16 (R139). -/
def execShld (addr : Word) (s : State) : Result State :=
  .next (opShld addr s)

/-- MVI H,d8 (R133). -/
def execMviH (imm8 : Byte) (s : State) : Result State :=
  .next (opMvi (.reg .h) imm8 s)

/-- LHLD a16 (R138). -/
def execLhld (addr : Word) (s : State) : Result State :=
  .next (opLhld addr s)

/-- MVI L,d8 (R133). -/
def execMviL (imm8 : Byte) (s : State) : Result State :=
  .next (opMvi (.reg .l) imm8 s)

/-- LXI SP,d16 (R135). -/
def execLxiSp (imm16 : Word) (s : State) : Result State :=
  .next (opLxi .sp imm16 s)

/-- STA a16 (R137). -/
def execSta (addr : Word) (s : State) : Result State :=
  .next (opStoreA addr s)

/-- MVI M,d8 (R134). -/
def execMviM (imm8 : Byte) (s : State) : Result State :=
  .next (opMvi .m imm8 s)

/-- LDA a16 (R136). -/
def execLda (addr : Word) (s : State) : Result State :=
  .next (opLoadA addr s)

/-- MVI A,d8 (R133). -/
def execMviA (imm8 : Byte) (s : State) : Result State :=
  .next (opMvi (.reg .a) imm8 s)

/-- MOV B,B (R130). -/
def execMovBB (s : State) : Result State :=
  .next (opMov (.reg .b) (.reg .b) s)

/-- MOV B,C (R130). -/
def execMovBC (s : State) : Result State :=
  .next (opMov (.reg .b) (.reg .c) s)

/-- MOV B,D (R130). -/
def execMovBD (s : State) : Result State :=
  .next (opMov (.reg .b) (.reg .d) s)

/-- MOV B,E (R130). -/
def execMovBE (s : State) : Result State :=
  .next (opMov (.reg .b) (.reg .e) s)

/-- MOV B,H (R130). -/
def execMovBH (s : State) : Result State :=
  .next (opMov (.reg .b) (.reg .h) s)

/-- MOV B,L (R130). -/
def execMovBL (s : State) : Result State :=
  .next (opMov (.reg .b) (.reg .l) s)

/-- MOV B,M (R131). -/
def execMovBM (s : State) : Result State :=
  .next (opMov (.reg .b) .m s)

/-- MOV B,A (R130). -/
def execMovBA (s : State) : Result State :=
  .next (opMov (.reg .b) (.reg .a) s)

/-- MOV C,B (R130). -/
def execMovCB (s : State) : Result State :=
  .next (opMov (.reg .c) (.reg .b) s)

/-- MOV C,C (R130). -/
def execMovCC (s : State) : Result State :=
  .next (opMov (.reg .c) (.reg .c) s)

/-- MOV C,D (R130). -/
def execMovCD (s : State) : Result State :=
  .next (opMov (.reg .c) (.reg .d) s)

/-- MOV C,E (R130). -/
def execMovCE (s : State) : Result State :=
  .next (opMov (.reg .c) (.reg .e) s)

/-- MOV C,H (R130). -/
def execMovCH (s : State) : Result State :=
  .next (opMov (.reg .c) (.reg .h) s)

/-- MOV C,L (R130). -/
def execMovCL (s : State) : Result State :=
  .next (opMov (.reg .c) (.reg .l) s)

/-- MOV C,M (R131). -/
def execMovCM (s : State) : Result State :=
  .next (opMov (.reg .c) .m s)

/-- MOV C,A (R130). -/
def execMovCA (s : State) : Result State :=
  .next (opMov (.reg .c) (.reg .a) s)

/-- MOV D,B (R130). -/
def execMovDB (s : State) : Result State :=
  .next (opMov (.reg .d) (.reg .b) s)

/-- MOV D,C (R130). -/
def execMovDC (s : State) : Result State :=
  .next (opMov (.reg .d) (.reg .c) s)

/-- MOV D,D (R130). -/
def execMovDD (s : State) : Result State :=
  .next (opMov (.reg .d) (.reg .d) s)

/-- MOV D,E (R130). -/
def execMovDE (s : State) : Result State :=
  .next (opMov (.reg .d) (.reg .e) s)

/-- MOV D,H (R130). -/
def execMovDH (s : State) : Result State :=
  .next (opMov (.reg .d) (.reg .h) s)

/-- MOV D,L (R130). -/
def execMovDL (s : State) : Result State :=
  .next (opMov (.reg .d) (.reg .l) s)

/-- MOV D,M (R131). -/
def execMovDM (s : State) : Result State :=
  .next (opMov (.reg .d) .m s)

/-- MOV D,A (R130). -/
def execMovDA (s : State) : Result State :=
  .next (opMov (.reg .d) (.reg .a) s)

/-- MOV E,B (R130). -/
def execMovEB (s : State) : Result State :=
  .next (opMov (.reg .e) (.reg .b) s)

/-- MOV E,C (R130). -/
def execMovEC (s : State) : Result State :=
  .next (opMov (.reg .e) (.reg .c) s)

/-- MOV E,D (R130). -/
def execMovED (s : State) : Result State :=
  .next (opMov (.reg .e) (.reg .d) s)

/-- MOV E,E (R130). -/
def execMovEE (s : State) : Result State :=
  .next (opMov (.reg .e) (.reg .e) s)

/-- MOV E,H (R130). -/
def execMovEH (s : State) : Result State :=
  .next (opMov (.reg .e) (.reg .h) s)

/-- MOV E,L (R130). -/
def execMovEL (s : State) : Result State :=
  .next (opMov (.reg .e) (.reg .l) s)

/-- MOV E,M (R131). -/
def execMovEM (s : State) : Result State :=
  .next (opMov (.reg .e) .m s)

/-- MOV E,A (R130). -/
def execMovEA (s : State) : Result State :=
  .next (opMov (.reg .e) (.reg .a) s)

/-- MOV H,B (R130). -/
def execMovHB (s : State) : Result State :=
  .next (opMov (.reg .h) (.reg .b) s)

/-- MOV H,C (R130). -/
def execMovHC (s : State) : Result State :=
  .next (opMov (.reg .h) (.reg .c) s)

/-- MOV H,D (R130). -/
def execMovHD (s : State) : Result State :=
  .next (opMov (.reg .h) (.reg .d) s)

/-- MOV H,E (R130). -/
def execMovHE (s : State) : Result State :=
  .next (opMov (.reg .h) (.reg .e) s)

/-- MOV H,H (R130). -/
def execMovHH (s : State) : Result State :=
  .next (opMov (.reg .h) (.reg .h) s)

/-- MOV H,L (R130). -/
def execMovHL (s : State) : Result State :=
  .next (opMov (.reg .h) (.reg .l) s)

/-- MOV H,M (R131). -/
def execMovHM (s : State) : Result State :=
  .next (opMov (.reg .h) .m s)

/-- MOV H,A (R130). -/
def execMovHA (s : State) : Result State :=
  .next (opMov (.reg .h) (.reg .a) s)

/-- MOV L,B (R130). -/
def execMovLB (s : State) : Result State :=
  .next (opMov (.reg .l) (.reg .b) s)

/-- MOV L,C (R130). -/
def execMovLC (s : State) : Result State :=
  .next (opMov (.reg .l) (.reg .c) s)

/-- MOV L,D (R130). -/
def execMovLD (s : State) : Result State :=
  .next (opMov (.reg .l) (.reg .d) s)

/-- MOV L,E (R130). -/
def execMovLE (s : State) : Result State :=
  .next (opMov (.reg .l) (.reg .e) s)

/-- MOV L,H (R130). -/
def execMovLH (s : State) : Result State :=
  .next (opMov (.reg .l) (.reg .h) s)

/-- MOV L,L (R130). -/
def execMovLL (s : State) : Result State :=
  .next (opMov (.reg .l) (.reg .l) s)

/-- MOV L,M (R131). -/
def execMovLM (s : State) : Result State :=
  .next (opMov (.reg .l) .m s)

/-- MOV L,A (R130). -/
def execMovLA (s : State) : Result State :=
  .next (opMov (.reg .l) (.reg .a) s)

/-- MOV M,B (R132). -/
def execMovMB (s : State) : Result State :=
  .next (opMov .m (.reg .b) s)

/-- MOV M,C (R132). -/
def execMovMC (s : State) : Result State :=
  .next (opMov .m (.reg .c) s)

/-- MOV M,D (R132). -/
def execMovMD (s : State) : Result State :=
  .next (opMov .m (.reg .d) s)

/-- MOV M,E (R132). -/
def execMovME (s : State) : Result State :=
  .next (opMov .m (.reg .e) s)

/-- MOV M,H (R132). -/
def execMovMH (s : State) : Result State :=
  .next (opMov .m (.reg .h) s)

/-- MOV M,L (R132). -/
def execMovML (s : State) : Result State :=
  .next (opMov .m (.reg .l) s)

/-- MOV M,A (R132). -/
def execMovMA (s : State) : Result State :=
  .next (opMov .m (.reg .a) s)

/-- MOV A,B (R130). -/
def execMovAB (s : State) : Result State :=
  .next (opMov (.reg .a) (.reg .b) s)

/-- MOV A,C (R130). -/
def execMovAC (s : State) : Result State :=
  .next (opMov (.reg .a) (.reg .c) s)

/-- MOV A,D (R130). -/
def execMovAD (s : State) : Result State :=
  .next (opMov (.reg .a) (.reg .d) s)

/-- MOV A,E (R130). -/
def execMovAE (s : State) : Result State :=
  .next (opMov (.reg .a) (.reg .e) s)

/-- MOV A,H (R130). -/
def execMovAH (s : State) : Result State :=
  .next (opMov (.reg .a) (.reg .h) s)

/-- MOV A,L (R130). -/
def execMovAL (s : State) : Result State :=
  .next (opMov (.reg .a) (.reg .l) s)

/-- MOV A,M (R131). -/
def execMovAM (s : State) : Result State :=
  .next (opMov (.reg .a) .m s)

/-- MOV A,A (R130). -/
def execMovAA (s : State) : Result State :=
  .next (opMov (.reg .a) (.reg .a) s)

/-- XCHG (R142). -/
def execXchg (s : State) : Result State :=
  .next (opXchg s)

end Sys2Proof.Machine
end

