-- ==== Sys2Proof/Machine/Logical.lean ====
section
/-! DEFINITION. The logical group (42_logical.md R220 to R238). Each rule is one shared operation; each
instruction is that operation on its own operands. -/

namespace Sys2Proof.Machine

/-! ## Operations -/

/-- ANA (R220 to R222): AC is bit 3 of the OR of the operands, CY is cleared. -/
def opAna (v : Byte) (s : State) : State :=
  { s.putFlags { s.flags.setSZP (s.a &&& v) with ac := (s.a ||| v).getLsbD 3, cy := false } with
    a := s.a &&& v }

/-- XRA and ORA write a result to A, set S, Z and P from it, and clear AC and CY (R223, R226). -/
def State.putLogic (s : State) (res : Byte) : State :=
  { s.putFlags { s.flags.setSZP res with ac := false, cy := false } with a := res }

/-- XRA (R223 to R225). -/
def opXra (v : Byte) (s : State) : State := s.putLogic (s.a ^^^ v)

/-- ORA (R226 to R228). -/
def opOra (v : Byte) (s : State) : State := s.putLogic (s.a ||| v)

/-- CMP (R229 to R231): the flags of SUB; A is not written. -/
def opCmp (v : Byte) (s : State) : State := s.putFlags ((sub8 s.a v false).flags s.flags)

/-- `A[6:0] ++ c` (R232, R234). -/
def shiftLeftIn (a : Byte) (c : Bool) : Byte := a.extractLsb' 0 7 ++ BitVec.ofBool c

/-- `c ++ A[7:1]` (R233, R235). -/
def shiftRightIn (c : Bool) (a : Byte) : Byte := BitVec.ofBool c ++ a.extractLsb' 1 7

/-- RLC (R232). -/
def opRlc (s : State) : State :=
  { s.putCy (s.a.getLsbD 7) with a := shiftLeftIn s.a (s.a.getLsbD 7) }

/-- RRC (R233). -/
def opRrc (s : State) : State :=
  { s.putCy (s.a.getLsbD 0) with a := shiftRightIn (s.a.getLsbD 0) s.a }

/-- RAL (R234). -/
def opRal (s : State) : State :=
  { s.putCy (s.a.getLsbD 7) with a := shiftLeftIn s.a s.flags.cy }

/-- RAR (R235). -/
def opRar (s : State) : State :=
  { s.putCy (s.a.getLsbD 0) with a := shiftRightIn s.flags.cy s.a }

/-- CMA (R236): no flag. -/
def opCma (s : State) : State := { s with a := ~~~s.a }

/-! ## Instructions -/

/-- RLC (R232). -/
def execRlc (s : State) : Result State :=
  .next (opRlc s)

/-- RRC (R233). -/
def execRrc (s : State) : Result State :=
  .next (opRrc s)

/-- RAL (R234). -/
def execRal (s : State) : Result State :=
  .next (opRal s)

/-- RAR (R235). -/
def execRar (s : State) : Result State :=
  .next (opRar s)

/-- CMA (R236). -/
def execCma (s : State) : Result State :=
  .next (opCma s)

/-- STC (R238). -/
def execStc (s : State) : Result State :=
  .next (s.putCy true)

/-- CMC (R237). -/
def execCmc (s : State) : Result State :=
  .next (s.putCy (!s.flags.cy))

/-- ANA B (R220). -/
def execAnaB (s : State) : Result State :=
  .next (opAna (s.loc (.reg .b)) s)

/-- ANA C (R220). -/
def execAnaC (s : State) : Result State :=
  .next (opAna (s.loc (.reg .c)) s)

/-- ANA D (R220). -/
def execAnaD (s : State) : Result State :=
  .next (opAna (s.loc (.reg .d)) s)

/-- ANA E (R220). -/
def execAnaE (s : State) : Result State :=
  .next (opAna (s.loc (.reg .e)) s)

/-- ANA H (R220). -/
def execAnaH (s : State) : Result State :=
  .next (opAna (s.loc (.reg .h)) s)

/-- ANA L (R220). -/
def execAnaL (s : State) : Result State :=
  .next (opAna (s.loc (.reg .l)) s)

/-- ANA M (R221). -/
def execAnaM (s : State) : Result State :=
  .next (opAna (s.loc .m) s)

/-- ANA A (R220). -/
def execAnaA (s : State) : Result State :=
  .next (opAna (s.loc (.reg .a)) s)

/-- XRA B (R223). -/
def execXraB (s : State) : Result State :=
  .next (opXra (s.loc (.reg .b)) s)

/-- XRA C (R223). -/
def execXraC (s : State) : Result State :=
  .next (opXra (s.loc (.reg .c)) s)

/-- XRA D (R223). -/
def execXraD (s : State) : Result State :=
  .next (opXra (s.loc (.reg .d)) s)

/-- XRA E (R223). -/
def execXraE (s : State) : Result State :=
  .next (opXra (s.loc (.reg .e)) s)

/-- XRA H (R223). -/
def execXraH (s : State) : Result State :=
  .next (opXra (s.loc (.reg .h)) s)

/-- XRA L (R223). -/
def execXraL (s : State) : Result State :=
  .next (opXra (s.loc (.reg .l)) s)

/-- XRA M (R224). -/
def execXraM (s : State) : Result State :=
  .next (opXra (s.loc .m) s)

/-- XRA A (R223). -/
def execXraA (s : State) : Result State :=
  .next (opXra (s.loc (.reg .a)) s)

/-- ORA B (R226). -/
def execOraB (s : State) : Result State :=
  .next (opOra (s.loc (.reg .b)) s)

/-- ORA C (R226). -/
def execOraC (s : State) : Result State :=
  .next (opOra (s.loc (.reg .c)) s)

/-- ORA D (R226). -/
def execOraD (s : State) : Result State :=
  .next (opOra (s.loc (.reg .d)) s)

/-- ORA E (R226). -/
def execOraE (s : State) : Result State :=
  .next (opOra (s.loc (.reg .e)) s)

/-- ORA H (R226). -/
def execOraH (s : State) : Result State :=
  .next (opOra (s.loc (.reg .h)) s)

/-- ORA L (R226). -/
def execOraL (s : State) : Result State :=
  .next (opOra (s.loc (.reg .l)) s)

/-- ORA M (R227). -/
def execOraM (s : State) : Result State :=
  .next (opOra (s.loc .m) s)

/-- ORA A (R226). -/
def execOraA (s : State) : Result State :=
  .next (opOra (s.loc (.reg .a)) s)

/-- CMP B (R229). -/
def execCmpB (s : State) : Result State :=
  .next (opCmp (s.loc (.reg .b)) s)

/-- CMP C (R229). -/
def execCmpC (s : State) : Result State :=
  .next (opCmp (s.loc (.reg .c)) s)

/-- CMP D (R229). -/
def execCmpD (s : State) : Result State :=
  .next (opCmp (s.loc (.reg .d)) s)

/-- CMP E (R229). -/
def execCmpE (s : State) : Result State :=
  .next (opCmp (s.loc (.reg .e)) s)

/-- CMP H (R229). -/
def execCmpH (s : State) : Result State :=
  .next (opCmp (s.loc (.reg .h)) s)

/-- CMP L (R229). -/
def execCmpL (s : State) : Result State :=
  .next (opCmp (s.loc (.reg .l)) s)

/-- CMP M (R230). -/
def execCmpM (s : State) : Result State :=
  .next (opCmp (s.loc .m) s)

/-- CMP A (R229). -/
def execCmpA (s : State) : Result State :=
  .next (opCmp (s.loc (.reg .a)) s)

/-- ANI d8 (R222). -/
def execAni (imm8 : Byte) (s : State) : Result State :=
  .next (opAna imm8 s)

/-- XRI d8 (R225). -/
def execXri (imm8 : Byte) (s : State) : Result State :=
  .next (opXra imm8 s)

/-- ORI d8 (R228). -/
def execOri (imm8 : Byte) (s : State) : Result State :=
  .next (opOra imm8 s)

/-- CPI d8 (R231). -/
def execCpi (imm8 : Byte) (s : State) : Result State :=
  .next (opCmp imm8 s)

end Sys2Proof.Machine
end

