-- ==== Sys2Proof/Machine/StackIoControl.lean ====
section
/-! DEFINITION. The stack, I/O and machine control group (44_stack_io_control.md R290 to R301). Only
POP PSW writes F. -/

namespace Sys2Proof.Machine

/-! ## Operations -/

/-- PUSH (R290, R291). -/
def opPush (rp : StackPair) (s : State) : State := s.push16 (s.stackPair rp)

/-- POP (R292, R293). -/
def opPop (rp : StackPair) (s : State) : State := (s.pop16).2.setStackPair rp (s.pop16).1

/-- XTHL (R294): both bytes are read before either is written; SP stays. -/
def opXthl (s : State) : State := (s.write16 s.sp s.hl).setPair .hl (s.read16 s.sp)

/-- IN (R296). -/
def opIn (port : Byte) (s : State) : State := { s.afterIoRead port with a := s.ioAnswer port }

/-! ## Instructions -/

/-- NOP (R301). -/
def execNop (s : State) : Result State :=
  .next s

/-- HLT (R300). -/
def execHlt (s : State) : Result State :=
  .next { s with halted := true }

/-- POP B (R292). -/
def execPopB (s : State) : Result State :=
  .next (opPop .bc s)

/-- PUSH B (R290). -/
def execPushB (s : State) : Result State :=
  .next (opPush .bc s)

/-- POP D (R292). -/
def execPopD (s : State) : Result State :=
  .next (opPop .de s)

/-- OUT d8 (R297). -/
def execOut (port : Byte) (s : State) : Result State :=
  .next (s.ioWrite port s.a)

/-- PUSH D (R290). -/
def execPushD (s : State) : Result State :=
  .next (opPush .de s)

/-- IN d8 (R296). -/
def execInp (port : Byte) (s : State) : Result State :=
  .next (opIn port s)

/-- POP H (R292). -/
def execPopH (s : State) : Result State :=
  .next (opPop .hl s)

/-- XTHL (R294). -/
def execXthl (s : State) : Result State :=
  .next (opXthl s)

/-- PUSH H (R290). -/
def execPushH (s : State) : Result State :=
  .next (opPush .hl s)

/-- POP PSW (R293). -/
def execPopPsw (s : State) : Result State :=
  .next (opPop .psw s)

/-- DI (R299). -/
def execDi (s : State) : Result State :=
  .next { s with ie := false }

/-- PUSH PSW (R291). -/
def execPushPsw (s : State) : Result State :=
  .next (opPush .psw s)

/-- SPHL (R295). -/
def execSphl (s : State) : Result State :=
  .next { s with sp := s.hl }

/-- EI (R298). -/
def execEi (s : State) : Result State :=
  .next { s with ie := true, inhibit := s.params.eiDelay }

end Sys2Proof.Machine
end

