-- ==== Sys2Proof/Machine/Undefined.lean ====
section
/-! DEFINITION. The twelve undefined bytes (45_undocumented.md R320 to R324): each executes as the defined
instruction its rule names. `UNDOC_MODE` is looked at when the byte is fetched (R325, Loop.lean). -/

namespace Sys2Proof.Machine

/-- The instructions of the twelve undefined bytes (R321 to R324). -/
def isUndefined : Instr → Bool
  | .undefNop _ | .undefJmp _ | .undefRet | .undefCall _ _ => true
  | .nop | .lxiB _ | .staxB | .inxB | .inrB | .dcrB | .mviB _ | .rlc | .dadB | .ldaxB | .dcxB
  | .inrC | .dcrC | .mviC _ | .rrc | .lxiD _ | .staxD | .inxD | .inrD | .dcrD | .mviD _ | .ral
  | .dadD | .ldaxD | .dcxD | .inrE | .dcrE | .mviE _ | .rar | .lxiH _ | .shld _ | .inxH | .inrH
  | .dcrH | .mviH _ | .daa | .dadH | .lhld _ | .dcxH | .inrL | .dcrL | .mviL _ | .cma
  | .lxiSp _ | .sta _ | .inxSp | .inrM | .dcrM | .mviM _ | .stc | .dadSp | .lda _ | .dcxSp
  | .inrA | .dcrA | .mviA _ | .cmc | .movBB | .movBC | .movBD | .movBE | .movBH | .movBL
  | .movBM | .movBA | .movCB | .movCC | .movCD | .movCE | .movCH | .movCL | .movCM | .movCA
  | .movDB | .movDC | .movDD | .movDE | .movDH | .movDL | .movDM | .movDA | .movEB | .movEC
  | .movED | .movEE | .movEH | .movEL | .movEM | .movEA | .movHB | .movHC | .movHD | .movHE
  | .movHH | .movHL | .movHM | .movHA | .movLB | .movLC | .movLD | .movLE | .movLH | .movLL
  | .movLM | .movLA | .movMB | .movMC | .movMD | .movME | .movMH | .movML | .hlt | .movMA
  | .movAB | .movAC | .movAD | .movAE | .movAH | .movAL | .movAM | .movAA | .addB | .addC
  | .addD | .addE | .addH | .addL | .addM | .addA | .adcB | .adcC | .adcD | .adcE | .adcH
  | .adcL | .adcM | .adcA | .subB | .subC | .subD | .subE | .subH | .subL | .subM | .subA
  | .sbbB | .sbbC | .sbbD | .sbbE | .sbbH | .sbbL | .sbbM | .sbbA | .anaB | .anaC | .anaD
  | .anaE | .anaH | .anaL | .anaM | .anaA | .xraB | .xraC | .xraD | .xraE | .xraH | .xraL
  | .xraM | .xraA | .oraB | .oraC | .oraD | .oraE | .oraH | .oraL | .oraM | .oraA | .cmpB
  | .cmpC | .cmpD | .cmpE | .cmpH | .cmpL | .cmpM | .cmpA | .rnz | .popB | .jnz _ | .jmp _
  | .cnz _ | .pushB | .adi _ | .rst0 | .rz | .ret | .jz _ | .cz _ | .call _ | .aci _ | .rst1
  | .rnc | .popD | .jnc _ | .out _ | .cnc _ | .pushD | .sui _ | .rst2 | .rc | .jc _ | .inp _
  | .cc _ | .sbi _ | .rst3 | .rpo | .popH | .jpo _ | .xthl | .cpo _ | .pushH | .ani _ | .rst4
  | .rpe | .pchl | .jpe _ | .xchg | .cpe _ | .xri _ | .rst5 | .rp | .popPsw | .jp _ | .di
  | .cp _ | .pushPsw | .ori _ | .rst6 | .rm | .sphl | .jm _ | .ei | .cm _ | .cpi _ | .rst7 => false

/-! ## Instructions -/

/-- *NOP (R321). -/
def execUndefNop (_ddd : BitVec 3) (s : State) : Result State :=
  .next s

/-- *JMP a16 (R322). -/
def execUndefJmp (addr : Word) (s : State) : Result State :=
  .next (opJump addr s)

/-- *RET (R323). -/
def execUndefRet (s : State) : Result State :=
  .next (opRet s)

/-- *CALL a16 (R324). -/
def execUndefCall (_sel : BitVec 2) (addr : Word) (s : State) : Result State :=
  .next (opCall addr s)

end Sys2Proof.Machine
end

