-- ==== Sys2Proof/Machine/Timing.lean ====
section
/-! DEFINITION. Cycle counts (70_reset_and_hazards.md R380). They reach CYCLES and nothing else (R381). -/

namespace Sys2Proof.Machine

/-- The cycles of a conditional instruction: `taken` when the condition holds, else `notTaken` (R380). -/
def cyclesIf (cond : Cond) (s : State) (taken notTaken : Nat) : Nat :=
  if condHolds cond s.flags then taken else notTaken

/-- The cycles of an instruction started in `s` (R380). -/
def cycles (i : Instr) (s : State) : Nat :=
  match i with
  | .nop | .rlc | .undefNop _ | .rrc | .ral | .rar | .daa | .cma | .stc | .cmc | .addB | .addC
  | .addD | .addE | .addH | .addL | .addA | .adcB | .adcC | .adcD | .adcE | .adcH | .adcL
  | .adcA | .subB | .subC | .subD | .subE | .subH | .subL | .subA | .sbbB | .sbbC | .sbbD
  | .sbbE | .sbbH | .sbbL | .sbbA | .anaB | .anaC | .anaD | .anaE | .anaH | .anaL | .anaA
  | .xraB | .xraC | .xraD | .xraE | .xraH | .xraL | .xraA | .oraB | .oraC | .oraD | .oraE
  | .oraH | .oraL | .oraA | .cmpB | .cmpC | .cmpD | .cmpE | .cmpH | .cmpL | .cmpA | .xchg | .di
  | .ei => 4
  | .inxB | .inrB | .dcrB | .dcxB | .inrC | .dcrC | .inxD | .inrD | .dcrD | .dcxD | .inrE
  | .dcrE | .inxH | .inrH | .dcrH | .dcxH | .inrL | .dcrL | .inxSp | .dcxSp | .inrA | .dcrA
  | .movBB | .movBC | .movBD | .movBE | .movBH | .movBL | .movBA | .movCB | .movCC | .movCD
  | .movCE | .movCH | .movCL | .movCA | .movDB | .movDC | .movDD | .movDE | .movDH | .movDL
  | .movDA | .movEB | .movEC | .movED | .movEE | .movEH | .movEL | .movEA | .movHB | .movHC
  | .movHD | .movHE | .movHH | .movHL | .movHA | .movLB | .movLC | .movLD | .movLE | .movLH
  | .movLL | .movLA | .movAB | .movAC | .movAD | .movAE | .movAH | .movAL | .movAA | .pchl
  | .sphl => 5
  | .staxB | .mviB _ | .ldaxB | .mviC _ | .staxD | .mviD _ | .ldaxD | .mviE _ | .mviH _
  | .mviL _ | .mviA _ | .movBM | .movCM | .movDM | .movEM | .movHM | .movLM | .movMB | .movMC
  | .movMD | .movME | .movMH | .movML | .hlt | .movMA | .movAM | .addM | .adcM | .subM | .sbbM
  | .anaM | .xraM | .oraM | .cmpM | .adi _ | .aci _ | .sui _ | .sbi _ | .ani _ | .xri _
  | .ori _ | .cpi _ => 7
  | .lxiB _ | .dadB | .lxiD _ | .dadD | .lxiH _ | .dadH | .lxiSp _ | .inrM | .dcrM | .mviM _
  | .dadSp | .popB | .jnz _ | .jmp _ | .ret | .jz _ | .undefJmp _ | .popD | .jnc _ | .out _
  | .undefRet | .jc _ | .inp _ | .popH | .jpo _ | .jpe _ | .popPsw | .jp _ | .jm _ => 10
  | .pushB | .rst0 | .rst1 | .pushD | .rst2 | .rst3 | .pushH | .rst4 | .rst5 | .pushPsw | .rst6
  | .rst7 => 11
  | .sta _ | .lda _ => 13
  | .shld _ | .lhld _ => 16
  | .call _ | .undefCall _ _ => 17
  | .xthl => 18
  | .rnz => cyclesIf .nz s 11 5
  | .cnz _ => cyclesIf .nz s 17 11
  | .rz => cyclesIf .z s 11 5
  | .cz _ => cyclesIf .z s 17 11
  | .rnc => cyclesIf .nc s 11 5
  | .cnc _ => cyclesIf .nc s 17 11
  | .rc => cyclesIf .c s 11 5
  | .cc _ => cyclesIf .c s 17 11
  | .rpo => cyclesIf .po s 11 5
  | .cpo _ => cyclesIf .po s 17 11
  | .rpe => cyclesIf .pe s 11 5
  | .cpe _ => cyclesIf .pe s 17 11
  | .rp => cyclesIf .p s 11 5
  | .cp _ => cyclesIf .p s 17 11
  | .rm => cyclesIf .m s 11 5
  | .cm _ => cyclesIf .m s 17 11

end Sys2Proof.Machine
end

