-- ==== Sys2Proof/Machine/Loop.lean ====
section
/-! DEFINITION. The interrupt sequencer and the execution loop (60_exceptions.md R340 to R344), and what
the host does between iterations (R352, 70_reset_and_hazards.md R371, R373, R374). -/

namespace Sys2Proof.Machine

/-! ## One instruction (R342) -/

/-- The bytes of the instruction at PC (20_memory.md R67, 30_encoding.md R111): as many as the opcode
byte says, from consecutive addresses that wrap. -/
def fetchBytes (s : State) : List Byte :=
  let op := s.read .opcode s.pc
  [op, s.read .operand1 (s.pc + 1), s.read .operand2 (s.pc + 2)].take (opcodeLength op)

/-- What the fetch of an instruction changes: it ends the EI window and moves PC to the next sequential
instruction (R342, log 17). -/
def afterFetch (i : Instr) (s : State) : State :=
  { s with inhibit := false, pc := s.pc + BitVec.ofNat 16 (opcodeLength (opcode i)) }

/-- The bookkeeping after the operation (R342, 10_state.md R39). `n` is the cycle count. -/
def retire (n : Nat) (t : State) : State :=
  { t with cycles := t.cycles + n, instrs := t.instrs + 1 }

/-- `ExecuteOne()` (R342), and the refusal of an undefined byte when `UNDOC_MODE` says so (R325). -/
def executeOne (s : State) : Result State :=
  match decode (fetchBytes s) with
  | .error _ => .fault .unresolvedDispatch
  | .ok (i, _) =>
    if s.params.undocMode = .refuse ∧ isUndefined i = true then
      .refused (.undefinedOpcode (opcode i) s.pc)
    else
      match exec i (afterFetch i s) with
      | .next t => .next (retire (cycles i s) t)
      | .fault r => .fault r
      | .refused r => .refused r

/-! ## One iteration (R340) -/

/-- The vector of a signal that is accepted now (R334): RST n, with IE = 1 and INHIBIT = 0. -/
def accepted (sig : Signal) (s : State) : Option (BitVec 3) :=
  match sig with
  | .rst n => if s.ie && !s.inhibit then some n else none
  | .noInterrupt => none
  | .quit => none

/-- `HaltedIdle()` (R343). -/
def haltedIdle (s : State) : State := { s with cycles := s.cycles + s.params.haltIdleCycles }

/-- What an iteration does between its poll and its termination test (R340). A signal that is not
accepted is discarded (R334). -/
def iterationBody (sig : Signal) (s : State) : Result State :=
  match accepted sig s with
  | some n => .next (s.interruptEntry n)
  | none => if s.halted then .next (haltedIdle s) else executeOne s

/-- The termination test at the end of an iteration (R340, R344). -/
def endIteration (sig : Signal) (t : State) : State :=
  { t with
    iteration := t.iteration + 1
    runState := if sig = .quit ∨ t.params.sentinel = some t.pc then .stopped else t.runState }

/-- One loop iteration whose poll the host answers with `sig` (R340). Every iteration has its own number,
the one a Quit ends before its step too (log 11). -/
def iteration (sig : Signal) (s : State) : Result State :=
  if sig = .quit ∧ s.params.quitOrder = .beforeStep then
    .next { s with iteration := s.iteration + 1, runState := .stopped }
  else
    match iterationBody sig s with
    | .next t => .next (endIteration sig t)
    | .fault r => .fault r
    | .refused r => .refused r

/-! ## The host between iterations (R352) -/

/-- Idle becomes Ready when both ports are attached (10_state.md R40). -/
def State.becomeReady (s : State) : State :=
  { s with
    runState :=
      if s.runState = .idle ∧ s.memAttached = true ∧ s.ioAttached = true then .ready else s.runState }

/-- What `Run(startAddress)` does when it is allowed (R371). -/
def State.startRun (s : State) (start : Word) : State :=
  { s with pc := start, halted := false, inhibit := false, runState := .running }

/-- A snapshot load (R373): CpuState and memory, with the fixed bits of F pinned again (10_state.md R28);
HALTED, INHIBIT and the counters stay. Over a Memory Port that is not plain RAM the image goes into `State.mem`,
and reads stay draws (log 22). -/
def State.loadSnapshot (s : State) (snap : Snapshot) : State :=
  { s with
    a := snap.a, b := snap.b, c := snap.c, d := snap.d, e := snap.e, h := snap.h, l := snap.l
    f := pinFlagByte snap.f
    sp := snap.sp
    pc := snap.pc
    ie := snap.ie
    mem := Memory.ofCells snap.mem }

/-- What a snapshot save gives the host (R352, R373). DESIGN CHOICE, log 22: over a Memory Port that is not plain
RAM the image is `State.mem`, what was attached, loaded and written, and not what the port would answer. -/
def State.snapshot (s : State) : Snapshot where
  a := s.a
  b := s.b
  c := s.c
  d := s.d
  e := s.e
  h := s.h
  l := s.l
  f := s.f
  sp := s.sp
  pc := s.pc
  ie := s.ie
  mem := s.mem

/-- One move of the host (R352). A poll's answer is an iteration while RUNSTATE is Running, and nothing
asks for it otherwise. `Run` before both ports are attached is an error the call reports (R374) and
changes nothing (log 7).

DESIGN CHOICE, log 20: while no Memory Port is attached a snapshot load acts all the same, on the registers and
on `State.mem`; the port attached later replaces that memory by its own contents. -/
def hostMove (m : HostMove) (s : State) : Result State :=
  match m with
  | .answer sig => if s.runState = .running then iteration sig s else .next s
  | .attachMemory contents =>
    if s.runState = .running then .refused .attachDuringRun
    else
      match contents with
      | none => .next s
      | some cells => .next { s with mem := Memory.ofCells cells, memAttached := true }.becomeReady
  | .attachIo nonEmpty =>
    if s.runState = .running then .refused .attachDuringRun
    else if nonEmpty then .next { s with ioAttached := true }.becomeReady
    else .next s
  | .run start =>
    match s.runState with
    | .idle => .next s
    | .ready => .next (s.startRun start)
    | .running => .refused .runDuringRun
    | .stopped => .next (s.startRun start)
  | .snapshotSave => .next s
  | .snapshotLoad tagMatches snap => if tagMatches then .next (s.loadSnapshot snap) else .next s

/-- The state in which the bits of `w` stand at PC as an instruction of up to three bytes, everything a
fetch needs being in place: a run in progress over plain RAM, nothing halted, the coming poll answered
"no interrupt", and undefined bytes run as their aliases. -/
def State.fetchReady (s : State) (v : BitVec 24) : State :=
  { s with
    mem := ((s.mem.write s.pc (v.extractLsb' 0 8)).write (s.pc + 1) (v.extractLsb' 8 8)).write
      (s.pc + 2) (v.extractLsb' 16 8)
    memAttached := true
    ioAttached := true
    runState := .running
    halted := false
    host := [.answer .noInterrupt]
    params := { s.params with memPort := .ram, undocMode := .runAlias } }

end Sys2Proof.Machine
end

