-- ==== Sys2Proof/Machine/Step.lean ====
section
/-! DEFINITION. One step: the host's next move (60_exceptions.md R352), which while RUNSTATE is Running is
most often the answer to a poll and so one loop iteration (R340). -/

namespace Sys2Proof.Machine

/-- One step. With no host move listed, a running block polls and is answered with any signal, a free value
(R332, log 5), and a block that is not running stays as it is (log 6). -/
def step (s : State) : Host.Outcome State Fault Refusal :=
  match s.host with
  | [] => if s.runState = .running then iteration s.pollAnswer s else .next s
  | m :: rest => hostMove m { s with host := rest }

/-- `s` with the instruction whose bits are `w` where `step` fetches next (log 13): `nbits` bits, the
others 0. -/
def State.withFetchWord (s : State) (nbits w : Nat) : State :=
  s.fetchReady (BitVec.ofNat 24 (w % 2 ^ nbits))

end Sys2Proof.Machine
end

