-- ==== Sys2Proof/Safety.lean ====
section
/-! DEFINITION. The terms claims use: what a sound state is, what the host may do, and, from the spec's
own tables, which flags, registers and bytes an instruction may change. -/

namespace Sys2Proof.Machine

/-! ## Sound states -/

/-- The fixed bits of F hold their values: bits 5 and 3 are 0, bit 1 is 1 (10_state.md R28). -/
abbrev State.FlagsPinned (s : State) : Prop :=
  s.f.getLsbD 5 = false ∧ s.f.getLsbD 3 = false ∧ s.f.getLsbD 1 = true

/-- Memory has its canonical form. -/
abbrev State.MemCanonical (s : State) : Prop := s.mem.wf = true

/-- INHIBIT is always 0 when `EI_DELAY` is 0 (10_state.md R38). -/
abbrev State.InhibitLegal (s : State) : Prop := s.inhibit = true → s.params.eiDelay = true

/-- A halted block has no EI window open: the halt instruction's own start closed it
(60_exceptions.md R342), and no instruction runs while the block is halted (R343). -/
abbrev State.HaltedLegal (s : State) : Prop := s.halted = true → s.inhibit = false

/-- RUNSTATE is Idle exactly until both ports are attached (10_state.md R40). -/
abbrev State.RunStateLegal (s : State) : Prop :=
  s.runState = .idle ↔ ¬(s.memAttached = true ∧ s.ioAttached = true)

/-- What every step keeps. -/
structure State.Inv (s : State) : Prop where
  flagsPinned : s.FlagsPinned
  memCanonical : s.MemCanonical
  inhibitLegal : s.InhibitLegal
  haltedLegal : s.HaltedLegal
  runStateLegal : s.RunStateLegal

/-! ## The host -/

/-- The coming poll of a running block is answered with `sig`, and `s'` is the state with that answer
used up: the next listed move is that answer, or no move is listed and the answer is the free value. -/
def State.Polls (s : State) (sig : Signal) (s' : State) : Prop :=
  s.runState = .running ∧
    ((s.host = [] ∧ sig = s.pollAnswer ∧ s' = s) ∨
      ∃ rest, s.host = .answer sig :: rest ∧ s' = { s with host := rest })

/-- The host makes no call that R352 and R371 do not allow at this point: no `Run` and no attachment
while a run is in progress. -/
def State.HostInTurn (s : State) : Prop :=
  s.runState = .running →
    ∀ m rest, s.host = m :: rest →
      (∀ contents, m ≠ .attachMemory contents) ∧ (∀ ok, m ≠ .attachIo ok) ∧ ∀ start, m ≠ .run start

/-- RUNSTATE after an iteration that ends at `pc` (60_exceptions.md R344). -/
def runStateAfter (sig : Signal) (params : Params) (pc : Word) (before : RunState) : RunState :=
  if sig = .quit ∨ params.sentinel = some pc then .stopped else before

/-! ## Forms and effects -/

/-- `i` is a form of the ALU operation `op` (register, M or immediate), and `v` is its second operand
in `s` (30_encoding.md R99). -/
def AluForm (op : AluOp) (s : State) (i : Instr) (v : Byte) : Prop :=
  (∃ l, i = .ofAlu op l ∧ v = s.loc l) ∨ i = .ofAluImm op v

/-- From `s` to `t` nothing changes but general registers, and of those only `dst`. -/
def OnlyReg (dst : Reg) (s t : State) : Prop :=
  t = { s with a := t.a, b := t.b, c := t.c, d := t.d, e := t.e, h := t.h, l := t.l } ∧
    ∀ r, r ≠ dst → t.reg r = s.reg r

/-- From memory `m` to memory `m'` no byte changes but those at the addresses `stored`. -/
def SameBytesBut (stored : List Word) (m m' : Memory) : Prop :=
  ∀ x, x ∉ stored → m'.read x = m.read x

/-- `v` has been pushed between `s` and `t` (20_memory.md R65): SP went down by two, the high byte
stands at the old SP - 1, the low byte at the old SP - 2, and no other byte changed. -/
def Pushed (v : Word) (s t : State) : Prop :=
  t.sp = s.sp - 2 ∧ t.mem.read (s.sp - 1) = hiByte v ∧ t.mem.read (s.sp - 2) = loByte v ∧
    SameBytesBut [s.sp - 1, s.sp - 2] s.mem t.mem

/-- The flag byte with the flags of an 8-bit result: S, Z and P from it (R29, R30, R32), AC and CY as
given. -/
def flagByte (res : Byte) (ac cy : Bool) : Byte :=
  Flags.pack { s := res.getLsbD 7, z := decide (res = 0), ac := ac, p := parityEven res, cy := cy }

/-- What an instruction does to one flag (the table of 10_state.md R34). -/
inductive FlagEffect where
  | kept
  | fromResult
  | cleared
  | set
  | popped
deriving DecidableEq, Repr

/-- What an instruction does to the five flags. -/
structure FlagEffects where
  s : FlagEffect
  z : FlagEffect
  ac : FlagEffect
  p : FlagEffect
  cy : FlagEffect
deriving DecidableEq, Repr

/-- A flag after an instruction agrees with the table's entry: kept, cleared or set. The value of a
flag from the result or from the popped byte is each rule's own. -/
def FlagEffect.Agrees (e : FlagEffect) (before after : Bool) : Prop :=
  match e with
  | .kept => after = before
  | .cleared => after = false
  | .set => after = true
  | .fromResult => True
  | .popped => True

/-- The table of 10_state.md R34. -/
def flagEffects : Instr → FlagEffects
  | .nop | .lxiB _ | .staxB | .inxB | .mviB _ | .undefNop _ | .ldaxB | .dcxB | .mviC _
  | .lxiD _ | .staxD | .inxD | .mviD _ | .ldaxD | .dcxD | .mviE _ | .lxiH _ | .shld _ | .inxH
  | .mviH _ | .lhld _ | .dcxH | .mviL _ | .cma | .lxiSp _ | .sta _ | .inxSp | .mviM _ | .lda _
  | .dcxSp | .mviA _ | .movBB | .movBC | .movBD | .movBE | .movBH | .movBL | .movBM | .movBA
  | .movCB | .movCC | .movCD | .movCE | .movCH | .movCL | .movCM | .movCA | .movDB | .movDC
  | .movDD | .movDE | .movDH | .movDL | .movDM | .movDA | .movEB | .movEC | .movED | .movEE
  | .movEH | .movEL | .movEM | .movEA | .movHB | .movHC | .movHD | .movHE | .movHH | .movHL
  | .movHM | .movHA | .movLB | .movLC | .movLD | .movLE | .movLH | .movLL | .movLM | .movLA
  | .movMB | .movMC | .movMD | .movME | .movMH | .movML | .hlt | .movMA | .movAB | .movAC
  | .movAD | .movAE | .movAH | .movAL | .movAM | .movAA | .rnz | .popB | .jnz _ | .jmp _
  | .cnz _ | .pushB | .rst0 | .rz | .ret | .jz _ | .undefJmp _ | .cz _ | .call _ | .rst1 | .rnc
  | .popD | .jnc _ | .out _ | .cnc _ | .pushD | .rst2 | .rc | .undefRet | .jc _ | .inp _
  | .cc _ | .undefCall _ _ | .rst3 | .rpo | .popH | .jpo _ | .xthl | .cpo _ | .pushH | .rst4
  | .rpe | .pchl | .jpe _ | .xchg | .cpe _ | .rst5 | .rp | .jp _ | .di | .cp _ | .pushPsw
  | .rst6 | .rm | .sphl | .jm _ | .ei | .cm _ | .rst7 => ⟨.kept, .kept, .kept, .kept, .kept⟩
  | .inrB | .dcrB | .inrC | .dcrC | .inrD | .dcrD | .inrE | .dcrE | .inrH | .dcrH | .inrL
  | .dcrL | .inrM | .dcrM | .inrA | .dcrA => ⟨.fromResult, .fromResult, .fromResult, .fromResult, .kept⟩
  | .rlc | .dadB | .rrc | .ral | .dadD | .rar | .dadH | .dadSp | .cmc => ⟨.kept, .kept, .kept, .kept, .fromResult⟩
  | .daa | .addB | .addC | .addD | .addE | .addH | .addL | .addM | .addA | .adcB | .adcC
  | .adcD | .adcE | .adcH | .adcL | .adcM | .adcA | .subB | .subC | .subD | .subE | .subH
  | .subL | .subM | .subA | .sbbB | .sbbC | .sbbD | .sbbE | .sbbH | .sbbL | .sbbM | .sbbA
  | .cmpB | .cmpC | .cmpD | .cmpE | .cmpH | .cmpL | .cmpM | .cmpA | .adi _ | .aci _ | .sui _
  | .sbi _ | .cpi _ => ⟨.fromResult, .fromResult, .fromResult, .fromResult, .fromResult⟩
  | .stc => ⟨.kept, .kept, .kept, .kept, .set⟩
  | .anaB | .anaC | .anaD | .anaE | .anaH | .anaL | .anaM | .anaA | .ani _ => ⟨.fromResult, .fromResult, .fromResult, .fromResult, .cleared⟩
  | .xraB | .xraC | .xraD | .xraE | .xraH | .xraL | .xraM | .xraA | .oraB | .oraC | .oraD
  | .oraE | .oraH | .oraL | .oraM | .oraA | .xri _ | .ori _ => ⟨.fromResult, .fromResult, .cleared, .fromResult, .cleared⟩
  | .popPsw => ⟨.popped, .popped, .popped, .popped, .popped⟩

/-- The general registers an instruction may write (10_state.md R41, and each rule). -/
def destRegs : Instr → List Reg
  | .nop | .staxB | .undefNop _ | .staxD | .shld _ | .lxiSp _ | .sta _ | .inxSp | .inrM | .dcrM
  | .mviM _ | .stc | .dcxSp | .cmc | .movMB | .movMC | .movMD | .movME | .movMH | .movML | .hlt
  | .movMA | .cmpB | .cmpC | .cmpD | .cmpE | .cmpH | .cmpL | .cmpM | .cmpA | .rnz | .jnz _
  | .jmp _ | .cnz _ | .pushB | .rst0 | .rz | .ret | .jz _ | .undefJmp _ | .cz _ | .call _
  | .rst1 | .rnc | .jnc _ | .out _ | .cnc _ | .pushD | .rst2 | .rc | .undefRet | .jc _ | .cc _
  | .undefCall _ _ | .rst3 | .rpo | .jpo _ | .cpo _ | .pushH | .rst4 | .rpe | .pchl | .jpe _
  | .cpe _ | .rst5 | .rp | .jp _ | .di | .cp _ | .pushPsw | .rst6 | .rm | .sphl | .jm _ | .ei
  | .cm _ | .cpi _ | .rst7 => []
  | .lxiB _ | .inxB | .dcxB | .popB => [.b, .c]
  | .inrB | .dcrB | .mviB _ | .movBB | .movBC | .movBD | .movBE | .movBH | .movBL | .movBM
  | .movBA => [.b]
  | .rlc | .ldaxB | .rrc | .ral | .ldaxD | .rar | .daa | .cma | .lda _ | .inrA | .dcrA
  | .mviA _ | .movAB | .movAC | .movAD | .movAE | .movAH | .movAL | .movAM | .movAA | .addB
  | .addC | .addD | .addE | .addH | .addL | .addM | .addA | .adcB | .adcC | .adcD | .adcE
  | .adcH | .adcL | .adcM | .adcA | .subB | .subC | .subD | .subE | .subH | .subL | .subM
  | .subA | .sbbB | .sbbC | .sbbD | .sbbE | .sbbH | .sbbL | .sbbM | .sbbA | .anaB | .anaC
  | .anaD | .anaE | .anaH | .anaL | .anaM | .anaA | .xraB | .xraC | .xraD | .xraE | .xraH
  | .xraL | .xraM | .xraA | .oraB | .oraC | .oraD | .oraE | .oraH | .oraL | .oraM | .oraA
  | .adi _ | .aci _ | .sui _ | .inp _ | .sbi _ | .ani _ | .xri _ | .popPsw | .ori _ => [.a]
  | .dadB | .dadD | .lxiH _ | .inxH | .dadH | .lhld _ | .dcxH | .dadSp | .popH | .xthl => [.h, .l]
  | .inrC | .dcrC | .mviC _ | .movCB | .movCC | .movCD | .movCE | .movCH | .movCL | .movCM
  | .movCA => [.c]
  | .lxiD _ | .inxD | .dcxD | .popD => [.d, .e]
  | .inrD | .dcrD | .mviD _ | .movDB | .movDC | .movDD | .movDE | .movDH | .movDL | .movDM
  | .movDA => [.d]
  | .inrE | .dcrE | .mviE _ | .movEB | .movEC | .movED | .movEE | .movEH | .movEL | .movEM
  | .movEA => [.e]
  | .inrH | .dcrH | .mviH _ | .movHB | .movHC | .movHD | .movHE | .movHH | .movHL | .movHM
  | .movHA => [.h]
  | .inrL | .dcrL | .mviL _ | .movLB | .movLC | .movLD | .movLE | .movLH | .movLL | .movLM
  | .movLA => [.l]
  | .xchg => [.d, .e, .h, .l]

/-- Whether an instruction may write SP (10_state.md R26). -/
def writesSp : Instr → Bool
  | .lxiSp _ | .inxSp | .dcxSp | .rnz | .popB | .cnz _ | .pushB | .rst0 | .rz | .ret | .cz _
  | .call _ | .rst1 | .rnc | .popD | .cnc _ | .pushD | .rst2 | .rc | .undefRet | .cc _
  | .undefCall _ _ | .rst3 | .rpo | .popH | .cpo _ | .pushH | .rst4 | .rpe | .cpe _ | .rst5
  | .rp | .popPsw | .cp _ | .pushPsw | .rst6 | .rm | .sphl | .cm _ | .rst7 => true
  | .nop | .lxiB _ | .staxB | .inxB | .inrB | .dcrB | .mviB _ | .rlc | .undefNop _ | .dadB
  | .ldaxB | .dcxB | .inrC | .dcrC | .mviC _ | .rrc | .lxiD _ | .staxD | .inxD | .inrD | .dcrD
  | .mviD _ | .ral | .dadD | .ldaxD | .dcxD | .inrE | .dcrE | .mviE _ | .rar | .lxiH _
  | .shld _ | .inxH | .inrH | .dcrH | .mviH _ | .daa | .dadH | .lhld _ | .dcxH | .inrL | .dcrL
  | .mviL _ | .cma | .sta _ | .inrM | .dcrM | .mviM _ | .stc | .dadSp | .lda _ | .inrA | .dcrA
  | .mviA _ | .cmc | .movBB | .movBC | .movBD | .movBE | .movBH | .movBL | .movBM | .movBA
  | .movCB | .movCC | .movCD | .movCE | .movCH | .movCL | .movCM | .movCA | .movDB | .movDC
  | .movDD | .movDE | .movDH | .movDL | .movDM | .movDA | .movEB | .movEC | .movED | .movEE
  | .movEH | .movEL | .movEM | .movEA | .movHB | .movHC | .movHD | .movHE | .movHH | .movHL
  | .movHM | .movHA | .movLB | .movLC | .movLD | .movLE | .movLH | .movLL | .movLM | .movLA
  | .movMB | .movMC | .movMD | .movME | .movMH | .movML | .hlt | .movMA | .movAB | .movAC
  | .movAD | .movAE | .movAH | .movAL | .movAM | .movAA | .addB | .addC | .addD | .addE | .addH
  | .addL | .addM | .addA | .adcB | .adcC | .adcD | .adcE | .adcH | .adcL | .adcM | .adcA
  | .subB | .subC | .subD | .subE | .subH | .subL | .subM | .subA | .sbbB | .sbbC | .sbbD
  | .sbbE | .sbbH | .sbbL | .sbbM | .sbbA | .anaB | .anaC | .anaD | .anaE | .anaH | .anaL
  | .anaM | .anaA | .xraB | .xraC | .xraD | .xraE | .xraH | .xraL | .xraM | .xraA | .oraB
  | .oraC | .oraD | .oraE | .oraH | .oraL | .oraM | .oraA | .cmpB | .cmpC | .cmpD | .cmpE
  | .cmpH | .cmpL | .cmpM | .cmpA | .jnz _ | .jmp _ | .adi _ | .jz _ | .undefJmp _ | .aci _
  | .jnc _ | .out _ | .sui _ | .jc _ | .inp _ | .sbi _ | .jpo _ | .xthl | .ani _ | .pchl
  | .jpe _ | .xchg | .xri _ | .jp _ | .di | .ori _ | .jm _ | .ei | .cpi _ => false

/-- Whether the operation of an instruction may write PC (43_branch.md R260). -/
def writesPc : Instr → Bool
  | .rnz | .jnz _ | .jmp _ | .cnz _ | .rst0 | .rz | .ret | .jz _ | .undefJmp _ | .cz _
  | .call _ | .rst1 | .rnc | .jnc _ | .cnc _ | .rst2 | .rc | .undefRet | .jc _ | .cc _
  | .undefCall _ _ | .rst3 | .rpo | .jpo _ | .cpo _ | .rst4 | .rpe | .pchl | .jpe _ | .cpe _
  | .rst5 | .rp | .jp _ | .cp _ | .rst6 | .rm | .jm _ | .cm _ | .rst7 => true
  | .nop | .lxiB _ | .staxB | .inxB | .inrB | .dcrB | .mviB _ | .rlc | .undefNop _ | .dadB
  | .ldaxB | .dcxB | .inrC | .dcrC | .mviC _ | .rrc | .lxiD _ | .staxD | .inxD | .inrD | .dcrD
  | .mviD _ | .ral | .dadD | .ldaxD | .dcxD | .inrE | .dcrE | .mviE _ | .rar | .lxiH _
  | .shld _ | .inxH | .inrH | .dcrH | .mviH _ | .daa | .dadH | .lhld _ | .dcxH | .inrL | .dcrL
  | .mviL _ | .cma | .lxiSp _ | .sta _ | .inxSp | .inrM | .dcrM | .mviM _ | .stc | .dadSp
  | .lda _ | .dcxSp | .inrA | .dcrA | .mviA _ | .cmc | .movBB | .movBC | .movBD | .movBE
  | .movBH | .movBL | .movBM | .movBA | .movCB | .movCC | .movCD | .movCE | .movCH | .movCL
  | .movCM | .movCA | .movDB | .movDC | .movDD | .movDE | .movDH | .movDL | .movDM | .movDA
  | .movEB | .movEC | .movED | .movEE | .movEH | .movEL | .movEM | .movEA | .movHB | .movHC
  | .movHD | .movHE | .movHH | .movHL | .movHM | .movHA | .movLB | .movLC | .movLD | .movLE
  | .movLH | .movLL | .movLM | .movLA | .movMB | .movMC | .movMD | .movME | .movMH | .movML
  | .hlt | .movMA | .movAB | .movAC | .movAD | .movAE | .movAH | .movAL | .movAM | .movAA
  | .addB | .addC | .addD | .addE | .addH | .addL | .addM | .addA | .adcB | .adcC | .adcD
  | .adcE | .adcH | .adcL | .adcM | .adcA | .subB | .subC | .subD | .subE | .subH | .subL
  | .subM | .subA | .sbbB | .sbbC | .sbbD | .sbbE | .sbbH | .sbbL | .sbbM | .sbbA | .anaB
  | .anaC | .anaD | .anaE | .anaH | .anaL | .anaM | .anaA | .xraB | .xraC | .xraD | .xraE
  | .xraH | .xraL | .xraM | .xraA | .oraB | .oraC | .oraD | .oraE | .oraH | .oraL | .oraM
  | .oraA | .cmpB | .cmpC | .cmpD | .cmpE | .cmpH | .cmpL | .cmpM | .cmpA | .popB | .pushB
  | .adi _ | .aci _ | .popD | .out _ | .pushD | .sui _ | .inp _ | .sbi _ | .popH | .xthl
  | .pushH | .ani _ | .xchg | .xri _ | .popPsw | .di | .pushPsw | .ori _ | .sphl | .ei | .cpi _ => false

/-- The addresses an instruction started in `s` stores to (the table of 20_memory.md R70). -/
def storeAddrs (i : Instr) (s : State) : List Word :=
  match i with
  | .nop | .lxiB _ | .inxB | .inrB | .dcrB | .mviB _ | .rlc | .undefNop _ | .dadB | .ldaxB
  | .dcxB | .inrC | .dcrC | .mviC _ | .rrc | .lxiD _ | .inxD | .inrD | .dcrD | .mviD _ | .ral
  | .dadD | .ldaxD | .dcxD | .inrE | .dcrE | .mviE _ | .rar | .lxiH _ | .inxH | .inrH | .dcrH
  | .mviH _ | .daa | .dadH | .lhld _ | .dcxH | .inrL | .dcrL | .mviL _ | .cma | .lxiSp _
  | .inxSp | .stc | .dadSp | .lda _ | .dcxSp | .inrA | .dcrA | .mviA _ | .cmc | .movBB | .movBC
  | .movBD | .movBE | .movBH | .movBL | .movBM | .movBA | .movCB | .movCC | .movCD | .movCE
  | .movCH | .movCL | .movCM | .movCA | .movDB | .movDC | .movDD | .movDE | .movDH | .movDL
  | .movDM | .movDA | .movEB | .movEC | .movED | .movEE | .movEH | .movEL | .movEM | .movEA
  | .movHB | .movHC | .movHD | .movHE | .movHH | .movHL | .movHM | .movHA | .movLB | .movLC
  | .movLD | .movLE | .movLH | .movLL | .movLM | .movLA | .hlt | .movAB | .movAC | .movAD
  | .movAE | .movAH | .movAL | .movAM | .movAA | .addB | .addC | .addD | .addE | .addH | .addL
  | .addM | .addA | .adcB | .adcC | .adcD | .adcE | .adcH | .adcL | .adcM | .adcA | .subB
  | .subC | .subD | .subE | .subH | .subL | .subM | .subA | .sbbB | .sbbC | .sbbD | .sbbE
  | .sbbH | .sbbL | .sbbM | .sbbA | .anaB | .anaC | .anaD | .anaE | .anaH | .anaL | .anaM
  | .anaA | .xraB | .xraC | .xraD | .xraE | .xraH | .xraL | .xraM | .xraA | .oraB | .oraC
  | .oraD | .oraE | .oraH | .oraL | .oraM | .oraA | .cmpB | .cmpC | .cmpD | .cmpE | .cmpH
  | .cmpL | .cmpM | .cmpA | .rnz | .popB | .jnz _ | .jmp _ | .adi _ | .rz | .ret | .jz _
  | .undefJmp _ | .aci _ | .rnc | .popD | .jnc _ | .out _ | .sui _ | .rc | .undefRet | .jc _
  | .inp _ | .sbi _ | .rpo | .popH | .jpo _ | .ani _ | .rpe | .pchl | .jpe _ | .xchg | .xri _
  | .rp | .popPsw | .jp _ | .di | .ori _ | .rm | .sphl | .jm _ | .ei | .cpi _ => []
  | .staxB => [s.index .bc]
  | .staxD => [s.index .de]
  | .shld addr => [addr, addr + 1]
  | .sta addr => [addr]
  | .inrM | .dcrM | .mviM _ | .movMB | .movMC | .movMD | .movME | .movMH | .movML | .movMA => [s.hl]
  | .cnz _ => if condHolds .nz s.flags then [s.sp - 1, s.sp - 2] else []
  | .pushB | .rst0 | .call _ | .rst1 | .pushD | .rst2 | .undefCall _ _ | .rst3 | .pushH | .rst4
  | .rst5 | .pushPsw | .rst6 | .rst7 => [s.sp - 1, s.sp - 2]
  | .cz _ => if condHolds .z s.flags then [s.sp - 1, s.sp - 2] else []
  | .cnc _ => if condHolds .nc s.flags then [s.sp - 1, s.sp - 2] else []
  | .cc _ => if condHolds .c s.flags then [s.sp - 1, s.sp - 2] else []
  | .xthl => [s.sp, s.sp + 1]
  | .cpo _ => if condHolds .po s.flags then [s.sp - 1, s.sp - 2] else []
  | .cpe _ => if condHolds .pe s.flags then [s.sp - 1, s.sp - 2] else []
  | .cp _ => if condHolds .p s.flags then [s.sp - 1, s.sp - 2] else []
  | .cm _ => if condHolds .m s.flags then [s.sp - 1, s.sp - 2] else []

end Sys2Proof.Machine
end

