-- ==== Sys2Proof/Certificates/Slice0/Obligations.lean ====
section
/-! DEFINITION. The statements for the provers. Each says which rule of the spec it formalises. -/

open Sys2Proof Sys2Proof.Machine

/-! ## Encoding -/

/-- Bytes written out from the spec's encodings, one of each family (30_encoding.md R101 to R105, and the
encoding line of each instruction's rule), and what they decode to. -/
def Obligations.WrittenOutBytesDecode : Prop :=
  decode [0b01_001_000#8] = .ok (.movCB, []) ∧
  decode [0b01_110_111#8] = .ok (.movMA, []) ∧
  decode [0b00_000_110#8, 0x3E] = .ok (.mviB 0x3E, []) ∧
  decode [0b00_10_0001#8, 0x34, 0x12] = .ok (.lxiH 0x1234, []) ∧
  decode [0b10_001_001#8] = .ok (.adcC, []) ∧
  decode [0b11_110_110#8, 0x0F] = .ok (.ori 0x0F, []) ∧
  decode [0b11_001_010#8, 0x00, 0x20] = .ok (.jz 0x2000, []) ∧
  decode [0b11_011_111#8] = .ok (.rst3, []) ∧
  decode [0b11_11_0101#8] = .ok (.pushPsw, []) ∧
  decode [0b1101_1011#8, 0x10] = .ok (.inp 0x10, []) ∧
  decode [0b01_110_110#8] = .ok (.hlt, []) ∧
  decode [0b00_100_000#8] = .ok (.undefNop 0b100, []) ∧
  decode [0b11_10_1101#8, 0x00, 0x20] = .ok (.undefCall 0b10 0x2000, [])

/-- Decoding the bytes of a well-formed instruction, whatever follows them, gives the instruction back
with every operand, and leaves what follows (30_encoding.md R90 to R105). -/
def Obligations.DecodeOfEncodeGivesTheInstructionBack : Prop :=
  ∀ (i : Instr) (rest : List Byte), i.wellFormed = true → decode (encode i ++ rest) = .ok (i, rest)

/-- The decoder is total (30_encoding.md R107): any three bytes begin with exactly one instruction, which
is well-formed and whose encoding they begin with. -/
def Obligations.EveryThreeBytesBeginWithOneInstruction : Prop :=
  ∀ b1 b2 b3 : Byte, ∃ i rest, decode [b1, b2, b3] = .ok (i, rest) ∧ i.wellFormed = true ∧
    encode i ++ rest = [b1, b2, b3]

/-- R92: the opcode byte alone fixes the length; 18 bytes begin a 2-byte instruction, 30 a 3-byte one, the
other 208 a 1-byte one. The second clause says that the decoder uses up exactly that many bytes. -/
def Obligations.LengthFollowsFromTheOpcodeByte : Prop :=
  (∀ op : Byte, opcodeLength op =
    if op ∈ [0x06#8, 0x0E, 0x16, 0x1E, 0x26, 0x2E, 0x36, 0x3E, 0xC6, 0xCE, 0xD6, 0xDE, 0xE6, 0xEE, 0xF6,
        0xFE, 0xD3, 0xDB] then 2
    else if op ∈ [0x01#8, 0x11, 0x21, 0x31, 0x22, 0x2A, 0x32, 0x3A, 0xC3, 0xC2, 0xCA, 0xD2, 0xDA, 0xE2, 0xEA,
        0xF2, 0xFA, 0xCD, 0xC4, 0xCC, 0xD4, 0xDC, 0xE4, 0xEC, 0xF4, 0xFC, 0xCB, 0xDD, 0xED, 0xFD] then 3
    else 1) ∧
  ∀ op b2 b3 : Byte, ∃ i, decode [op, b2, b3] = .ok (i, [op, b2, b3].drop (opcodeLength op))

/-- R98: the codes of the eight conditions, and what each tests. -/
def Obligations.ConditionsTestTheirFlag : Prop :=
  (∀ n : BitVec 3, codeOfCond (condOfCode n) = n) ∧
  ([codeOfCond .nz, codeOfCond .z, codeOfCond .nc, codeOfCond .c, codeOfCond .po, codeOfCond .pe,
      codeOfCond .p, codeOfCond .m]
    = [0b000#3, 0b001, 0b010, 0b011, 0b100, 0b101, 0b110, 0b111]) ∧
  ∀ s : State,
    (condHolds .nz s.flags = true ↔ s.f.getLsbD 6 = false) ∧
    (condHolds .z s.flags = true ↔ s.f.getLsbD 6 = true) ∧
    (condHolds .nc s.flags = true ↔ s.f.getLsbD 0 = false) ∧
    (condHolds .c s.flags = true ↔ s.f.getLsbD 0 = true) ∧
    (condHolds .po s.flags = true ↔ s.f.getLsbD 2 = false) ∧
    (condHolds .pe s.flags = true ↔ s.f.getLsbD 2 = true) ∧
    (condHolds .p s.flags = true ↔ s.f.getLsbD 7 = false) ∧
    (condHolds .m s.flags = true ↔ s.f.getLsbD 7 = true)

/-! ## Memory, registers, flags -/

/-- R60 and R61 for the reference port, plain RAM: a read gives the byte at the address, a write is seen
by every later read of its address until the next write, and leaves every other address as it was. The
canonical form is the premise; `StepKeepsTheInvariant` says every step keeps it. -/
def Obligations.RamReadGivesTheLastByteWritten : Prop :=
  ∀ (s : State) (acc : Access) (a x : Word) (v : Byte),
    s.params.memPort = .ram → s.MemCanonical →
      s.read acc x = s.mem.read x ∧
      (s.write a v).read acc a = v ∧
      (x ≠ a → (s.write a v).read acc x = s.read acc x) ∧
      s.write a v = { s with mem := (s.write a v).mem }

/-- Two canonical memories that read alike at every address are equal data. The canonical form is the
model's own (log 2). -/
def Obligations.CanonicalMemoriesThatReadAlikeAreEqual : Prop :=
  ∀ m n : Memory, m.wf = true → n.wf = true → (∀ a : Word, m.read a = n.read a) → m = n

/-- R63, R64: a 16-bit access is two byte accesses, the low byte at the lower address, the addresses
wrapping; over plain RAM `Read16` gives back what `Write16` wrote. -/
def Obligations.SixteenBitAccessIsLittleEndian : Prop :=
  ∀ (s : State) (a v : Word),
    s.read16 a = s.read .data2 (a + 1) ++ s.read .data1 a ∧
    s.write16 a v = { s with mem := (s.write16 a v).mem } ∧
    SameBytesBut [a, a + 1] s.mem (s.write16 a v).mem ∧
    (s.MemCanonical →
      (s.write16 a v).mem.read a = v.extractLsb' 0 8 ∧
      (s.write16 a v).mem.read (a + 1) = v.extractLsb' 8 8 ∧
      (s.params.memPort = .ram →
        s.read16 a = s.mem.read (a + 1) ++ s.mem.read a ∧ (s.write16 a v).read16 a = v))

/-- R65, R66: `Push16` writes the high byte at SP - 1 and the low byte at SP - 2 and leaves SP at the low
byte; `Pop16` reads SP and SP + 1 and leaves SP two up. Over plain RAM `Read16(SP)` returns the pushed word,
and `Pop16` returns it and restores SP. -/
def Obligations.PopReturnsThePushedWord : Prop :=
  ∀ (s : State) (v : Word),
    s.pop16 = (s.read .data2 (s.sp + 1) ++ s.read .data1 s.sp, { s with sp := s.sp + 2 }) ∧
    s.push16 v = { s with sp := s.sp - 2, mem := (s.push16 v).mem } ∧
    (s.MemCanonical → Pushed v s (s.push16 v)) ∧
    (s.MemCanonical → s.params.memPort = .ram →
      (s.push16 v).read16 (s.push16 v).sp = v ∧
      (s.push16 v).pop16 = (v, { s.push16 v with sp := s.sp }))

/-- R22: a pair is a view of two registers, the first-named in the high byte. Writing a pair writes both
halves and nothing else; reading it after a write of either half sees the new half. -/
def Obligations.PairsAreViewsOfTwoRegisters : Prop :=
  ∀ (s : State) (v : Word) (x : Byte),
    s.pair .bc = s.b ++ s.c ∧ s.pair .de = s.d ++ s.e ∧ s.pair .hl = s.h ++ s.l ∧ s.hl = s.pair .hl ∧
    s.setPair .bc v = { s with b := v.extractLsb' 8 8, c := v.extractLsb' 0 8 } ∧
    s.setPair .de v = { s with d := v.extractLsb' 8 8, e := v.extractLsb' 0 8 } ∧
    s.setPair .hl v = { s with h := v.extractLsb' 8 8, l := v.extractLsb' 0 8 } ∧
    (∀ rp, (s.setPair rp v).pair rp = v) ∧
    (s.setReg .b x).pair .bc = x ++ s.c ∧ (s.setReg .c x).pair .bc = s.b ++ x ∧
    (s.setReg .d x).pair .de = x ++ s.e ∧ (s.setReg .e x).pair .de = s.d ++ x ∧
    (s.setReg .h x).pair .hl = x ++ s.l ∧ (s.setReg .l x).pair .hl = s.h ++ x

/-- R27, R28: the layout `S Z 0 AC 0 P 1 CY` of the flag byte, and its fixed bits, which every write of F
applies again: a write of flags, POP PSW and a snapshot load. -/
def Obligations.FlagByteLayoutAndFixedBits : Prop :=
  (∀ fl : Flags, fl.pack.getLsbD 7 = fl.s ∧ fl.pack.getLsbD 6 = fl.z ∧ fl.pack.getLsbD 5 = false ∧
    fl.pack.getLsbD 4 = fl.ac ∧ fl.pack.getLsbD 3 = false ∧ fl.pack.getLsbD 2 = fl.p ∧
    fl.pack.getLsbD 1 = true ∧ fl.pack.getLsbD 0 = fl.cy) ∧
  ∀ s : State,
    s.flags = { s := s.f.getLsbD 7, z := s.f.getLsbD 6, ac := s.f.getLsbD 4, p := s.f.getLsbD 2,
                cy := s.f.getLsbD 0 } ∧
    s.flags.pack = (s.f &&& 0xD7) ||| 0x02 ∧
    (∀ w : Word, (s.setStackPair .psw w).f = (w.extractLsb' 0 8 &&& 0xD7) ||| 0x02) ∧
    (∀ snap, (s.loadSnapshot snap).f = (snap.f &&& 0xD7) ||| 0x02)

/-- R170: `SetSZP(v)` writes S from bit 7, Z from v = 0 and P from an even number of 1 bits, and no other
flag. -/
def Obligations.SetSZPWritesSignZeroAndEvenParity : Prop :=
  ∀ (fl : Flags) (v : Byte),
    (fl.setSZP v).s = v.getLsbD 7 ∧
    ((fl.setSZP v).z = true ↔ v = 0) ∧
    ((fl.setSZP v).p = true ↔ ((List.range 8).countP fun k => v.getLsbD k) % 2 = 0) ∧
    (fl.setSZP v).ac = fl.ac ∧ (fl.setSZP v).cy = fl.cy

/-! ## Data transfer -/

/-- R130 to R134: MOV between registers, from M and to M (the 63 constructors `mov..`), MVI to a register and to
M (constructors `mvi..`). No flag and nothing else changes; the forms that store to M change the byte at HL
alone. -/
def Obligations.MovAndMviWriteOneRegisterOrByte : Prop :=
  (∀ s : State,
    (∀ dst src : Reg,
      encode (.ofMov (.reg dst) (.reg src)) = [(0b01#2 ++ codeOfReg dst ++ codeOfReg src : BitVec 8)] ∧
      ∃ t, exec (.ofMov (.reg dst) (.reg src)) s = .next t ∧ t.reg dst = s.reg src ∧ OnlyReg dst s t) ∧
    (∀ dst : Reg,
      encode (.ofMov (.reg dst) .m) = [(0b01#2 ++ codeOfReg dst ++ 0b110#3 : BitVec 8)] ∧
      ∃ t, exec (.ofMov (.reg dst) .m) s = .next t ∧ t.reg dst = s.read .data1 (s.h ++ s.l) ∧
        OnlyReg dst s t) ∧
    (∀ src : Reg,
      encode (.ofMov .m (.reg src)) = [(0b01#2 ++ 0b110#3 ++ codeOfReg src : BitVec 8)] ∧
      ∃ t, exec (.ofMov .m (.reg src)) s = .next t ∧ t = { s with mem := t.mem } ∧
        (s.MemCanonical → t.mem.read (s.h ++ s.l) = s.reg src) ∧
        SameBytesBut [s.h ++ s.l] s.mem t.mem)) ∧
  (∀ (s : State) (imm8 : Byte),
    (∀ dst : Reg,
      encode (.ofMvi (.reg dst) imm8) = [(0b00#2 ++ codeOfReg dst ++ 0b110#3 : BitVec 8), imm8] ∧
      ∃ t, exec (.ofMvi (.reg dst) imm8) s = .next t ∧ t.reg dst = imm8 ∧ OnlyReg dst s t) ∧
    encode (.mviM imm8) = [0b00_110_110#8, imm8] ∧
    ∃ t, exec (.mviM imm8) s = .next t ∧ t = { s with mem := t.mem } ∧
      (s.MemCanonical → t.mem.read (s.h ++ s.l) = imm8) ∧ SameBytesBut [s.h ++ s.l] s.mem t.mem)

/-- R135, R138, R139, R142: LXI loads a pair or SP; LHLD loads L from its address and H from the next one,
which wraps; SHLD stores L at its address and H at the next one; XCHG exchanges HL with DE, and twice
restores both (constructors lxiB, lxiD, lxiH, lxiSp, lhld, shld, xchg). -/
def Obligations.PairTransfers : Prop :=
  (∀ (s : State) (imm16 : Word),
    encode (.lxiB imm16) = [0x01, imm16.extractLsb' 0 8, imm16.extractLsb' 8 8] ∧
    encode (.lxiD imm16) = [0x11, imm16.extractLsb' 0 8, imm16.extractLsb' 8 8] ∧
    encode (.lxiH imm16) = [0x21, imm16.extractLsb' 0 8, imm16.extractLsb' 8 8] ∧
    encode (.lxiSp imm16) = [0x31, imm16.extractLsb' 0 8, imm16.extractLsb' 8 8] ∧
    exec (.lxiB imm16) s = .next { s with b := imm16.extractLsb' 8 8, c := imm16.extractLsb' 0 8 } ∧
    exec (.lxiD imm16) s = .next { s with d := imm16.extractLsb' 8 8, e := imm16.extractLsb' 0 8 } ∧
    exec (.lxiH imm16) s = .next { s with h := imm16.extractLsb' 8 8, l := imm16.extractLsb' 0 8 } ∧
    exec (.lxiSp imm16) s = .next { s with sp := imm16 }) ∧
  (∀ (s : State) (addr : Word),
    encode (.lhld addr) = [0b0010_1010#8, addr.extractLsb' 0 8, addr.extractLsb' 8 8] ∧
    exec (.lhld addr) s = .next { s with l := s.read .data1 addr, h := s.read .data2 (addr + 1) }) ∧
  (∀ (s : State) (addr : Word),
    encode (.shld addr) = [0b0010_0010#8, addr.extractLsb' 0 8, addr.extractLsb' 8 8] ∧
    ∃ t, exec (.shld addr) s = .next t ∧ t = { s with mem := t.mem } ∧
      (s.MemCanonical → t.mem.read addr = s.l ∧ t.mem.read (addr + 1) = s.h) ∧
      SameBytesBut [addr, addr + 1] s.mem t.mem) ∧
  (∀ s : State, encode .xchg = [0b1110_1011#8] ∧
    ∃ t, exec .xchg s = .next t ∧ t.pair .hl = s.pair .de ∧ t.pair .de = s.pair .hl ∧
      t = { s with d := t.d, e := t.e, h := t.h, l := t.l } ∧ exec .xchg t = .next s)

/-- R136, R137, R140, R141: LDA and LDAX load A from their address, STA and STAX store A there (constructors
lda, ldaxB, ldaxD, sta, staxB, staxD). A store changes no other byte, register or flag. -/
def Obligations.LdaLdaxStaAndStaxMoveTheAccumulator : Prop :=
  (∀ (s : State) (addr : Word),
    encode (.lda addr) = [0b0011_1010#8, addr.extractLsb' 0 8, addr.extractLsb' 8 8] ∧
    encode .ldaxB = [0b00_00_1010#8] ∧ encode .ldaxD = [0b00_01_1010#8] ∧
    exec (.lda addr) s = .next { s with a := s.read .data1 addr } ∧
    exec .ldaxB s = .next { s with a := s.read .data1 (s.b ++ s.c) } ∧
    exec .ldaxD s = .next { s with a := s.read .data1 (s.d ++ s.e) }) ∧
  (∀ (s : State) (addr : Word),
    encode (.sta addr) = [0b0011_0010#8, addr.extractLsb' 0 8, addr.extractLsb' 8 8] ∧
    encode .staxB = [0b00_00_0010#8] ∧ encode .staxD = [0b00_01_0010#8] ∧
    ∀ i a, (i = .sta addr ∧ a = addr) ∨ (i = .staxB ∧ a = s.b ++ s.c) ∨ (i = .staxD ∧ a = s.d ++ s.e) →
      ∃ t, exec i s = .next t ∧ t = { s with mem := t.mem } ∧
        (s.MemCanonical → t.mem.read a = s.a) ∧ SameBytesBut [a] s.mem t.mem)

/-! ## Arithmetic -/

/-- R171, R173 to R178: ADD and ADC in their three forms (constructors add.., adi, adc.., aci): A is the sum
modulo 256, CY the carry out of bit 7, AC the carry out of bit 3. -/
def Obligations.AddAndAdcSetAccumulatorAndFlags : Prop :=
  ((∀ l, encode (.ofAlu .add l) = [(0b10000#5 ++ codeOfLoc l : BitVec 8)]) ∧
  (∀ imm8, encode (.adi imm8) = [0b1100_0110#8, imm8]) ∧
  ∀ s i v, AluForm .add s i v →
    exec i s = .next { s with
      a := BitVec.ofNat 8 (s.a.toNat + v.toNat)
      f := flagByte (BitVec.ofNat 8 (s.a.toNat + v.toNat))
        (decide (s.a.toNat % 16 + v.toNat % 16 > 15)) (decide (s.a.toNat + v.toNat > 255)) }) ∧
  ((∀ l, encode (.ofAlu .adc l) = [(0b10001#5 ++ codeOfLoc l : BitVec 8)]) ∧
  (∀ imm8, encode (.aci imm8) = [0b1100_1110#8, imm8]) ∧
  ∀ s i v, AluForm .adc s i v →
    exec i s = .next { s with
      a := BitVec.ofNat 8 (s.a.toNat + v.toNat + s.flags.cy.toNat)
      f := flagByte (BitVec.ofNat 8 (s.a.toNat + v.toNat + s.flags.cy.toNat))
        (decide (s.a.toNat % 16 + v.toNat % 16 + s.flags.cy.toNat > 15))
        (decide (s.a.toNat + v.toNat + s.flags.cy.toNat > 255)) })

/-- R172, R179 to R184: SUB and SBB in their three forms (constructors sub.., sui, sbb.., sbi). A is the
difference modulo 256; CY is the borrow, 1 exactly when A is below the operand and the borrow; AC is 1
exactly when no borrow crosses from bit 4 into bit 3. -/
def Obligations.SubAndSbbSetBorrowAndAuxiliaryCarry : Prop :=
  ((∀ l, encode (.ofAlu .sub l) = [(0b10010#5 ++ codeOfLoc l : BitVec 8)]) ∧
  (∀ imm8, encode (.sui imm8) = [0b1101_0110#8, imm8]) ∧
  ∀ s i v, AluForm .sub s i v →
    exec i s = .next { s with
      a := s.a - v
      f := flagByte (s.a - v) (decide (s.a.toNat % 16 ≥ v.toNat % 16)) (decide (s.a.toNat < v.toNat)) }) ∧
  ((∀ l, encode (.ofAlu .sbb l) = [(0b10011#5 ++ codeOfLoc l : BitVec 8)]) ∧
  (∀ imm8, encode (.sbi imm8) = [0b1101_1110#8, imm8]) ∧
  ∀ s i v, AluForm .sbb s i v →
    let r := s.a - v - BitVec.ofNat 8 s.flags.cy.toNat
    exec i s = .next { s with
      a := r
      f := flagByte r (decide (s.a.toNat % 16 ≥ v.toNat % 16 + s.flags.cy.toNat))
        (decide (s.a.toNat < v.toNat + s.flags.cy.toNat)) })

/-- R185 to R188: INR and DCR on a register and on M (constructors inr.., dcr..): the operand steps by one
modulo 256, S, Z and P come from the result, AC is 1 exactly when the result's low digit is 0 (INR) or is
not 15 (DCR), and CY is not written. -/
def Obligations.InrAndDcrKeepCarry : Prop :=
  (∀ s : State,
    (∀ r : Reg, encode (.ofInr (.reg r)) = [(0b00#2 ++ codeOfReg r ++ 0b100#3 : BitVec 8)] ∧
      ∃ t, exec (.ofInr (.reg r)) s = .next t ∧ t.reg r = s.reg r + 1 ∧
        t.f = flagByte (s.reg r + 1) (decide ((s.reg r + 1).toNat % 16 = 0)) s.flags.cy ∧
        OnlyReg r { s with f := t.f } t) ∧
    encode .inrM = [0b0011_0100#8] ∧
    ∃ t, exec .inrM s = .next t ∧
      (s.MemCanonical → t.mem.read s.hl = s.read .data1 s.hl + 1) ∧
      t.f = flagByte (s.read .data1 s.hl + 1) (decide ((s.read .data1 s.hl + 1).toNat % 16 = 0))
        s.flags.cy ∧
      t = { s with f := t.f, mem := t.mem } ∧ SameBytesBut [s.hl] s.mem t.mem) ∧
  (∀ s : State,
    (∀ r : Reg, encode (.ofDcr (.reg r)) = [(0b00#2 ++ codeOfReg r ++ 0b101#3 : BitVec 8)] ∧
      ∃ t, exec (.ofDcr (.reg r)) s = .next t ∧ t.reg r = s.reg r - 1 ∧
        t.f = flagByte (s.reg r - 1) (decide ((s.reg r - 1).toNat % 16 ≠ 15)) s.flags.cy ∧
        OnlyReg r { s with f := t.f } t) ∧
    encode .dcrM = [0b0011_0101#8] ∧
    ∃ t, exec .dcrM s = .next t ∧
      (s.MemCanonical → t.mem.read s.hl = s.read .data1 s.hl - 1) ∧
      t.f = flagByte (s.read .data1 s.hl - 1) (decide ((s.read .data1 s.hl - 1).toNat % 16 ≠ 15))
        s.flags.cy ∧
      t = { s with f := t.f, mem := t.mem } ∧ SameBytesBut [s.hl] s.mem t.mem)

/-- R189, R190: INX and DCX step a pair or SP by one modulo 65,536 and write no flag (constructors inx..,
dcx..). -/
def Obligations.InxAndDcxStepThePairAndNoFlag : Prop :=
  ∀ (s : State) (rp : Pair),
    encode (.ofInx rp) = [(0b00#2 ++ codeOfPair rp ++ 0b0011#4 : BitVec 8)] ∧
    encode (.ofDcx rp) = [(0b00#2 ++ codeOfPair rp ++ 0b1011#4 : BitVec 8)] ∧
    exec (.ofInx rp) s = .next (s.setPair rp (s.pair rp + 1)) ∧
    exec (.ofDcx rp) s = .next (s.setPair rp (s.pair rp - 1)) ∧
    (s.setPair rp (s.pair rp + 1)).f = s.f ∧ (s.setPair rp (s.pair rp - 1)).f = s.f

/-- R191: DAD adds a pair or SP to HL; CY is the carry out of bit 15 and no other flag is written
(constructors dad..). -/
def Obligations.DadAddsToHlAndSetsOnlyCarry : Prop :=
  ∀ (s : State) (rp : Pair),
    encode (.ofDad rp) = [(0b00#2 ++ codeOfPair rp ++ 0b1001#4 : BitVec 8)] ∧
    ∃ t, exec (.ofDad rp) s = .next t ∧
      (t.pair .hl).toNat = ((s.pair .hl).toNat + (s.pair rp).toNat) % 65536 ∧
      t.flags = { s.flags with cy := decide ((s.pair .hl).toNat + (s.pair rp).toNat > 65535) } ∧
      t = { s with h := t.h, l := t.l, f := t.flags.pack }

/-- R192: DAA, by the spec's own steps (constructor daa). -/
def Obligations.DaaAddsTheDecimalCorrection : Prop :=
  encode .daa = [0b0010_0111#8] ∧
  ∀ s : State,
    let lo := s.a.toNat % 16
    let hi := s.a.toNat / 16
    let low := decide (s.flags.ac = true ∨ lo > 9)
    let high := decide (s.flags.cy = true ∨ hi > 9 ∨ (hi ≥ 9 ∧ lo > 9))
    let corr := (if low then 0x06 else 0) + (if high then 0x60 else 0)
    exec .daa s = .next { s with
      a := BitVec.ofNat 8 (s.a.toNat + corr)
      f := flagByte (BitVec.ofNat 8 (s.a.toNat + corr)) (decide (lo + corr % 16 > 15))
        (if high then true else s.flags.cy) }

/-- The corner case R192 states: after ADD or ADC of two-digit decimal bytes, DAA leaves in A the decimal
sum modulo 100 and in CY whether it passed 99. -/
def Obligations.DaaAfterDecimalAdditionGivesTheDecimalSum : Prop :=
  ∀ (s : State) (x y : Nat) (i : Instr) (v : Byte) (c : Nat),
    x < 100 → y < 100 →
    s.a = BitVec.ofNat 8 (x / 10 * 16 + x % 10) → v = BitVec.ofNat 8 (y / 10 * 16 + y % 10) →
    ((AluForm .add s i v ∧ c = 0) ∨ (AluForm .adc s i v ∧ c = s.flags.cy.toNat)) →
    ∃ t u, exec i s = .next t ∧ exec .daa t = .next u ∧
      u.a = BitVec.ofNat 8 ((x + y + c) % 100 / 10 * 16 + (x + y + c) % 100 % 10) ∧
      u.flags.cy = decide (x + y + c > 99)

/-! ## Logic -/

/-- R220 to R228: ANA, XRA and ORA in their three forms (constructors ana.., ani, xra.., xri, ora.., ori). ANA
sets AC to bit 3 of the OR of the operands and clears CY; XRA and ORA clear both. -/
def Obligations.AnaXraAndOraSetTheFlags : Prop :=
  ((∀ l, encode (.ofAlu .ana l) = [(0b10100#5 ++ codeOfLoc l : BitVec 8)]) ∧
  (∀ imm8, encode (.ani imm8) = [0b1110_0110#8, imm8]) ∧
  ∀ s i v, AluForm .ana s i v →
    exec i s = .next { s with
      a := s.a &&& v
      f := flagByte (s.a &&& v) (s.a.getLsbD 3 || v.getLsbD 3) false }) ∧
  ((∀ l, encode (.ofAlu .xra l) = [(0b10101#5 ++ codeOfLoc l : BitVec 8)]) ∧
  (∀ imm8, encode (.xri imm8) = [0b1110_1110#8, imm8]) ∧
  (∀ l, encode (.ofAlu .ora l) = [(0b10110#5 ++ codeOfLoc l : BitVec 8)]) ∧
  (∀ imm8, encode (.ori imm8) = [0b1111_0110#8, imm8]) ∧
  ∀ s i v,
    (AluForm .xra s i v →
      exec i s = .next { s with a := s.a ^^^ v, f := flagByte (s.a ^^^ v) false false }) ∧
    (AluForm .ora s i v →
      exec i s = .next { s with a := s.a ||| v, f := flagByte (s.a ||| v) false false }))

/-- R229, R230, R231: CMP in its three forms (constructors cmp.. and cpi) leaves A and sets the flags
exactly as SUB of the same operand would; Z is 1 exactly when A equals the operand, CY exactly when A is
below it. -/
def Obligations.CmpSetsTheFlagsOfSubAndKeepsA : Prop :=
  (∀ l, encode (.ofAlu .cmp l) = [(0b10111#5 ++ codeOfLoc l : BitVec 8)]) ∧
  (∀ imm8, encode (.cpi imm8) = [0b1111_1110#8, imm8]) ∧
  ∀ s i v, AluForm .cmp s i v →
    ∃ t u, exec i s = .next t ∧ exec (.sui v) s = .next u ∧ t = { s with f := u.f } ∧
      (t.flags.z = true ↔ s.a = v) ∧ (t.flags.cy = true ↔ s.a.toNat < v.toNat)

/-- R232 to R238: RLC and RRC rotate A, RAL and RAR rotate A and CY together, nine bits; CY takes the bit that
leaves A. CMA complements A and writes no flag, CMC complements CY, STC sets it. No flag but CY is written
(constructors rlc, rrc, ral, rar, cma, cmc, stc). -/
def Obligations.RotatesComplementAndCarry : Prop :=
  (encode .rlc = [0b0000_0111#8] ∧ encode .rrc = [0b0000_1111#8] ∧
  encode .ral = [0b0001_0111#8] ∧ encode .rar = [0b0001_1111#8] ∧
  ∀ s : State,
    (exec .rlc s = .next { s with
      a := s.a.rotateLeft 1, f := Flags.pack { s.flags with cy := s.a.getLsbD 7 } }) ∧
    (exec .rrc s = .next { s with
      a := s.a.rotateRight 1, f := Flags.pack { s.flags with cy := s.a.getLsbD 0 } }) ∧
    (∃ t, exec .ral s = .next t ∧ t = { s with a := t.a, f := t.f } ∧
      t.flags = { s.flags with cy := s.a.getLsbD 7 } ∧ t.f = t.flags.pack ∧
      (BitVec.ofBool t.flags.cy ++ t.a : BitVec 9) = (BitVec.ofBool s.flags.cy ++ s.a : BitVec 9).rotateLeft 1) ∧
    (∃ t, exec .rar s = .next t ∧ t = { s with a := t.a, f := t.f } ∧
      t.flags = { s.flags with cy := s.a.getLsbD 0 } ∧ t.f = t.flags.pack ∧
      (BitVec.ofBool t.flags.cy ++ t.a : BitVec 9) = (BitVec.ofBool s.flags.cy ++ s.a : BitVec 9).rotateRight 1)) ∧
  (encode .cma = [0b0010_1111#8] ∧ encode .cmc = [0b0011_1111#8] ∧ encode .stc = [0b0011_0111#8] ∧
  ∀ s : State,
    exec .cma s = .next { s with a := ~~~s.a } ∧
    exec .cmc s = .next { s with f := Flags.pack { s.flags with cy := !s.flags.cy } } ∧
    exec .stc s = .next { s with f := Flags.pack { s.flags with cy := true } })

/-! ## Branch -/

/-- R261, R262, R267: JMP, the eight Jccc and PCHL (constructors jmp, j.., pchl). A jump not taken leaves
the next-instruction address; both paths of Jccc cost 10 cycles. -/
def Obligations.JumpsSetPc : Prop :=
  ∀ (s : State) (addr : Word) (cond : Cond),
    encode (.jmp addr) = [0b1100_0011#8, addr.extractLsb' 0 8, addr.extractLsb' 8 8] ∧
    encode (.ofJccc cond addr)
      = [(0b11#2 ++ codeOfCond cond ++ 0b010#3 : BitVec 8), addr.extractLsb' 0 8, addr.extractLsb' 8 8] ∧
    encode .pchl = [0b1110_1001#8] ∧
    exec (.jmp addr) s = .next { s with pc := addr } ∧
    (condHolds cond s.flags = true → exec (.ofJccc cond addr) s = .next { s with pc := addr }) ∧
    (condHolds cond s.flags = false → exec (.ofJccc cond addr) s = .next s) ∧
    cycles (.ofJccc cond addr) s = 10 ∧
    exec .pchl s = .next { s with pc := s.h ++ s.l }

/-- R263, R264, R268: CALL, the eight Cccc and the eight RST (constructors call, c.., rst..) push PC, the
next-instruction address, and go to their target; a call not taken changes nothing. -/
def Obligations.CallsPushTheReturnAddress : Prop :=
  ∀ (s : State) (addr : Word) (cond : Cond) (n : BitVec 3),
    encode (.call addr) = [0b1100_1101#8, addr.extractLsb' 0 8, addr.extractLsb' 8 8] ∧
    encode (.ofCccc cond addr)
      = [(0b11#2 ++ codeOfCond cond ++ 0b100#3 : BitVec 8), addr.extractLsb' 0 8, addr.extractLsb' 8 8] ∧
    encode (.ofRst n) = [(0b11#2 ++ n ++ 0b111#3 : BitVec 8)] ∧
    (∀ i target, (i = .call addr ∧ target = addr) ∨
        (i = .ofCccc cond addr ∧ target = addr ∧ condHolds cond s.flags = true) ∨
        (i = .ofRst n ∧ target = BitVec.ofNat 16 (n.toNat * 8)) →
      ∃ t, exec i s = .next t ∧ t = { s with pc := target, sp := s.sp - 2, mem := t.mem } ∧
        (s.MemCanonical → Pushed s.pc s t) ∧ SameBytesBut [s.sp - 1, s.sp - 2] s.mem t.mem) ∧
    (condHolds cond s.flags = false → exec (.ofCccc cond addr) s = .next s) ∧
    cycles (.ofCccc cond addr) s = (if condHolds cond s.flags then 17 else 11)

/-- R265, R266: RET and the eight Rccc (constructors ret, r..) pop PC; a return not taken changes
nothing. -/
def Obligations.ReturnsPopPc : Prop :=
  ∀ (s : State) (cond : Cond),
    encode .ret = [0b1100_1001#8] ∧
    encode (.ofRccc cond) = [(0b11#2 ++ codeOfCond cond ++ 0b000#3 : BitVec 8)] ∧
    (∀ i, i = .ret ∨ (i = .ofRccc cond ∧ condHolds cond s.flags = true) →
      exec i s = .next { s with
        pc := s.read .data2 (s.sp + 1) ++ s.read .data1 s.sp, sp := s.sp + 2 }) ∧
    (condHolds cond s.flags = false → exec (.ofRccc cond) s = .next s) ∧
    cycles (.ofRccc cond) s = (if condHolds cond s.flags then 11 else 5)

/-- Over plain RAM, RET executed where a CALL left the machine comes back to the instruction after the CALL with
SP restored (43_branch.md), and PUSH PSW then POP PSW restores A and F exactly (the corner case
44_stack_io_control.md states): nothing but the two stack bytes differs. -/
def Obligations.RetUndoesCallAndPopPswUndoesPushPsw : Prop :=
  (∀ (s : State) (addr : Word), s.params.memPort = .ram → s.MemCanonical →
    ∃ t u, exec (.call addr) s = .next t ∧ exec .ret t = .next u ∧
      u = { s with mem := t.mem } ∧ SameBytesBut [s.sp - 1, s.sp - 2] s.mem u.mem) ∧
  (∀ s : State, s.params.memPort = .ram → s.Inv →
    ∃ t u, exec .pushPsw s = .next t ∧ exec .popPsw t = .next u ∧ u = { s with mem := t.mem })

/-! ## Stack, input and output, control -/

/-- R290, R291: PUSH of a pair or of PSW, which is A and F (constructors pushB, pushD, pushH, pushPsw). In
a state with its fixed bits pinned the pushed flag byte has them. -/
def Obligations.PushStoresThePairBelowSp : Prop :=
  ∀ (s : State) (rp : StackPair),
    encode (.ofPush rp) = [(0b11#2 ++ codeOfStackPair rp ++ 0b0101#4 : BitVec 8)] ∧
    ∃ t, exec (.ofPush rp) s = .next t ∧ t = { s with sp := s.sp - 2, mem := t.mem } ∧
      SameBytesBut [s.sp - 1, s.sp - 2] s.mem t.mem ∧
      (s.MemCanonical → Pushed (match rp with
        | .bc => s.b ++ s.c
        | .de => s.d ++ s.e
        | .hl => s.h ++ s.l
        | .psw => s.a ++ s.f) s t) ∧
      (s.MemCanonical → s.FlagsPinned → rp = .psw →
        (t.mem.read t.sp).getLsbD 5 = false ∧ (t.mem.read t.sp).getLsbD 3 = false ∧
          (t.mem.read t.sp).getLsbD 1 = true)

/-- R292, R293: POP of a pair or of PSW (constructors popB, popD, popH, popPsw): the low byte from SP, the
high byte from SP + 1, SP up by two; POP PSW applies the fixed bits of F again. -/
def Obligations.PopLoadsThePairFromSp : Prop :=
  ∀ (s : State) (rp : StackPair),
    encode (.ofPop rp) = [(0b11#2 ++ codeOfStackPair rp ++ 0b0001#4 : BitVec 8)] ∧
    exec (.ofPop rp) s = .next (match rp with
      | .bc => { s with sp := s.sp + 2, b := s.read .data2 (s.sp + 1), c := s.read .data1 s.sp }
      | .de => { s with sp := s.sp + 2, d := s.read .data2 (s.sp + 1), e := s.read .data1 s.sp }
      | .hl => { s with sp := s.sp + 2, h := s.read .data2 (s.sp + 1), l := s.read .data1 s.sp }
      | .psw => { s with
          sp := s.sp + 2, a := s.read .data2 (s.sp + 1), f := (s.read .data1 s.sp &&& 0xD7) ||| 0x02 })

/-- R294, R295: XTHL exchanges HL with the word at SP, reading both bytes first, SP unchanged; SPHL copies
HL to SP (constructors xthl, sphl). -/
def Obligations.XthlAndSphl : Prop :=
  ∀ s : State,
    encode .xthl = [0b1110_0011#8] ∧ encode .sphl = [0b1111_1001#8] ∧
    (∃ t, exec .xthl s = .next t ∧
      t = { s with l := s.read .data1 s.sp, h := s.read .data2 (s.sp + 1), mem := t.mem } ∧
      (s.MemCanonical → t.mem.read s.sp = s.l ∧ t.mem.read (s.sp + 1) = s.h) ∧
      SameBytesBut [s.sp, s.sp + 1] s.mem t.mem) ∧
    exec .sphl s = .next { s with sp := s.h ++ s.l }

/-- R296, R297: IN puts the host's answer in A, OUT gives A to the port (constructors inp, out). The answer
is the next listed one; past the list nothing is said of it (a free value, log 9). The record of the calls
is the model's own (log 10). -/
def Obligations.InTakesTheHostsAnswerAndOutGivesA : Prop :=
  ∀ (s : State) (port : Byte),
    encode (.inp port) = [0b1101_1011#8, port] ∧ encode (.out port) = [0b1101_0011#8, port] ∧
    (∃ v, exec (.inp port) s = .next { s with
        a := v, ioAnswers := s.ioAnswers.tail, ioLog := .read port v :: s.ioLog } ∧
      ∀ x rest, s.ioAnswers = x :: rest → v = x) ∧
    exec (.out port) s = .next { s with ioLog := .write port s.a :: s.ioLog }

/-- R298, R299, R300, R301: EI, DI, HLT and NOP (constructors ei, di, hlt, nop). -/
def Obligations.MachineControl : Prop :=
  encode .ei = [0b1111_1011#8] ∧ encode .di = [0b1111_0011#8] ∧ encode .hlt = [0b0111_0110#8] ∧
  encode .nop = [0b0000_0000#8] ∧
  ∀ s : State,
    exec .ei s = .next { s with ie := true, inhibit := s.params.eiDelay } ∧
    exec .di s = .next { s with ie := false } ∧
    exec .hlt s = .next { s with halted := true } ∧
    exec .nop s = .next s

/-! ## Undefined bytes -/

/-- 45_undocumented.md R320 to R324: the twelve undefined bytes (constructors undefNop, undefJmp, undefRet,
undefCall) execute exactly as NOP, JMP, RET and CALL: the same length, operand bytes, operation and cycle
count. Two clauses are the model's choice: that `exec` runs the alias in a state with `UNDOC_MODE` = refuse
too, the refusal being the fetch's (log 15), and that the ill-formed terms, ddd = 000 and sel = 00, run the
alias (log 16). -/
def Obligations.UndefinedBytesExecuteAsTheirAliases : Prop :=
  ∀ (s : State) (ddd : BitVec 3) (sel : BitVec 2) (addr : Word),
    encode (.undefNop ddd) = [(0b00#2 ++ ddd ++ 0b000#3 : BitVec 8)] ∧
    encode (.undefJmp addr) = [0xCB, addr.extractLsb' 0 8, addr.extractLsb' 8 8] ∧
    encode .undefRet = [0xD9] ∧
    encode (.undefCall sel addr)
      = [(0b11#2 ++ sel ++ 0b1101#4 : BitVec 8), addr.extractLsb' 0 8, addr.extractLsb' 8 8] ∧
    exec (.undefNop ddd) s = .next s ∧
    exec (.undefJmp addr) s = .next { s with pc := addr } ∧
    exec .undefRet s = .next { s with
      pc := s.read .data2 (s.sp + 1) ++ s.read .data1 s.sp, sp := s.sp + 2 } ∧
    (∃ t, exec (.undefCall sel addr) s = .next t ∧ t = { s with pc := addr, sp := s.sp - 2, mem := t.mem } ∧
      (s.MemCanonical → Pushed s.pc s t)) ∧
    exec (.undefNop ddd) s = exec .nop s ∧ cycles (.undefNop ddd) s = 4 ∧ cycles .nop s = 4 ∧
    exec (.undefJmp addr) s = exec (.jmp addr) s ∧ cycles (.undefJmp addr) s = 10 ∧
    cycles (.jmp addr) s = 10 ∧
    exec .undefRet s = exec .ret s ∧ cycles .undefRet s = 10 ∧ cycles .ret s = 10 ∧
    exec (.undefCall sel addr) s = exec (.call addr) s ∧ cycles (.undefCall sel addr) s = 17 ∧
    cycles (.call addr) s = 17

/-- R325: with `UNDOC_MODE` = refuse, fetching an undefined byte ends the iteration with a refusal that
names the opcode and its address. -/
def Obligations.RefuseModeRefusesUndefinedBytes : Prop :=
  ∀ (s s' : State) (sig : Signal) (i : Instr) (rest : List Byte),
    s.Polls sig s' → accepted sig s' = none → s'.halted = false →
    ¬(sig = .quit ∧ s'.params.quitOrder = .beforeStep) →
    s'.params.undocMode = .refuse → decode (fetchBytes s') = .ok (i, rest) → i.wellFormed = true →
    opcode i ∈ [0x08#8, 0x10, 0x18, 0x20, 0x28, 0x30, 0x38, 0xCB, 0xD9, 0xDD, 0xED, 0xFD] →
    step s = .refused (.undefinedOpcode (opcode i) s'.pc)

/-! ## All instructions -/

/-- Every instruction of the table may run at any time and completes (60_exceptions.md R330, R348;
30_encoding.md R106): `exec`, the operation of an instruction, answers a next state, in every state. All 248
constructors. Two cases are the model's choice: `exec` of the four constructors of undefined bytes with
`UNDOC_MODE` = refuse, under which the fetch refuses such a byte (45_undocumented.md R325, log 15), and `exec`
of ill-formed terms (log 16). -/
def Obligations.EveryInstructionCompletesInEveryState : Prop :=
  ∀ (i : Instr) (s : State), ∃ t, exec i s = .next t

/-- 10_state.md R34: every instruction leaves each flag that its entry in the rule's table says it does not
write, and clears or sets the flags the table says it clears or sets; interrupt entry writes none. For an
undefined byte with `UNDOC_MODE` = refuse and for ill-formed terms this is the model's choice (log 15, log
16). -/
def Obligations.FlagsChangeOnlyAsTheTableSays : Prop :=
  (∀ (i : Instr) (s t : State), exec i s = .next t →
    (flagEffects i).s.Agrees s.flags.s t.flags.s ∧
    (flagEffects i).z.Agrees s.flags.z t.flags.z ∧
    (flagEffects i).ac.Agrees s.flags.ac t.flags.ac ∧
    (flagEffects i).p.Agrees s.flags.p t.flags.p ∧
    (flagEffects i).cy.Agrees s.flags.cy t.flags.cy) ∧
  ∀ (s : State) (n : BitVec 3), (s.interruptEntry n).f = s.f

/-- The frame of memory, for every instruction: every byte but those at the addresses of the table of R70,
computed from the state the instruction starts in, reads as before. For an undefined byte with `UNDOC_MODE` =
refuse and for ill-formed terms this is the model's choice (log 15, log 16). -/
def Obligations.MemoryChangesOnlyAtTheStoredAddresses : Prop :=
  ∀ (i : Instr) (s t : State), exec i s = .next t → SameBytesBut (storeAddrs i s) s.mem t.mem

/-- The frame of the registers, for every instruction: a general register that is no destination, SP where
it is not written, and PC where it is not written keep their values. For an undefined byte with
`UNDOC_MODE` = refuse and for ill-formed terms this is the model's choice (log 15, log 16). -/
def Obligations.RegistersChangeOnlyAsDestinations : Prop :=
  ∀ (i : Instr) (s t : State), exec i s = .next t →
    (∀ r, r ∉ destRegs i → t.reg r = s.reg r) ∧
    (writesSp i = false → t.sp = s.sp) ∧
    (writesPc i = false → t.pc = s.pc)

/-- The frame of the control state, for every instruction: only EI and DI write IE, only EI writes INHIBIT,
only HLT writes HALTED; no operation writes CYCLES, INSTRS, RUNSTATE, the ports or the parameters, nor the
model's own account of the host but IN and OUT (log 5, log 9, log 10, log 11). For an undefined byte with
`UNDOC_MODE` = refuse and for ill-formed terms this is the model's choice (log 15, log 16). -/
def Obligations.OnlyEiDiAndHltWriteControlState : Prop :=
  ∀ (i : Instr) (s t : State), exec i s = .next t →
    t.ie = (if i = .ei then true else if i = .di then false else s.ie) ∧
    t.inhibit = (if i = .ei then s.params.eiDelay else s.inhibit) ∧
    t.halted = (if i = .hlt then true else s.halted) ∧
    t.cycles = s.cycles ∧ t.instrs = s.instrs ∧ t.runState = s.runState ∧
    t.memAttached = s.memAttached ∧ t.ioAttached = s.ioAttached ∧ t.params = s.params ∧
    t.host = s.host ∧ t.iteration = s.iteration ∧
    ((∀ port, i ≠ .inp port) → (∀ port, i ≠ .out port) → t.ioLog = s.ioLog ∧ t.ioAnswers = s.ioAnswers)

/-- 70_reset_and_hazards.md R380: the cycle counts, family by family; a conditional call or return costs more
when taken. The counts of ill-formed terms, ddd = 000 and sel = 00, are the model's choice (log 16). -/
def Obligations.CycleCounts : Prop :=
  ∀ (s : State) (r q : Reg) (op : AluOp) (rp : Pair) (ip : IndexPair) (sp : StackPair) (cond : Cond)
    (n : BitVec 3) (v : Byte) (w : Word) (ddd : BitVec 3) (sel : BitVec 2),
    cycles (.ofMov (.reg r) (.reg q)) s = 5 ∧ cycles (.ofMov (.reg r) .m) s = 7 ∧
    cycles (.ofMov .m (.reg r)) s = 7 ∧ cycles (.ofMvi (.reg r) v) s = 7 ∧ cycles (.mviM v) s = 10 ∧
    cycles (.ofLxi rp w) s = 10 ∧ cycles (.lda w) s = 13 ∧ cycles (.sta w) s = 13 ∧
    cycles (.lhld w) s = 16 ∧ cycles (.shld w) s = 16 ∧ cycles (.ofLdax ip) s = 7 ∧
    cycles (.ofStax ip) s = 7 ∧ cycles .xchg s = 4 ∧
    cycles (.ofAlu op (.reg r)) s = 4 ∧ cycles (.ofAlu op .m) s = 7 ∧ cycles (.ofAluImm op v) s = 7 ∧
    cycles (.ofInr (.reg r)) s = 5 ∧ cycles (.ofDcr (.reg r)) s = 5 ∧ cycles .inrM s = 10 ∧
    cycles .dcrM s = 10 ∧ cycles (.ofInx rp) s = 5 ∧ cycles (.ofDcx rp) s = 5 ∧ cycles (.ofDad rp) s = 10 ∧
    cycles .daa s = 4 ∧ cycles .rlc s = 4 ∧ cycles .rrc s = 4 ∧ cycles .ral s = 4 ∧ cycles .rar s = 4 ∧
    cycles .cma s = 4 ∧ cycles .cmc s = 4 ∧ cycles .stc s = 4 ∧
    cycles (.jmp w) s = 10 ∧ cycles (.undefJmp w) s = 10 ∧ cycles (.ofJccc cond w) s = 10 ∧
    cycles (.call w) s = 17 ∧ cycles (.undefCall sel w) s = 17 ∧
    cycles (.ofCccc cond w) s = (if condHolds cond s.flags then 17 else 11) ∧
    cycles .ret s = 10 ∧ cycles .undefRet s = 10 ∧
    cycles (.ofRccc cond) s = (if condHolds cond s.flags then 11 else 5) ∧
    cycles .pchl s = 5 ∧ cycles (.ofRst n) s = 11 ∧ cycles (.ofPush sp) s = 11 ∧ cycles (.ofPop sp) s = 10 ∧
    cycles .xthl s = 18 ∧ cycles .sphl s = 5 ∧ cycles (.inp v) s = 10 ∧ cycles (.out v) s = 10 ∧
    cycles .ei s = 4 ∧ cycles .di s = 4 ∧ cycles .hlt s = 7 ∧ cycles .nop s = 4 ∧
    cycles (.undefNop ddd) s = 4 ∧
    (∀ m, (s.interruptEntry m).cycles = s.cycles + 11) ∧
    (haltedIdle s).cycles = s.cycles + s.params.haltIdleCycles

/-! ## The loop -/

/-- 60_exceptions.md R342: a step of a running block whose poll is not accepted, which is not halted and does
not quit before the step (R340), runs the instruction at PC: it closes the EI window, moves PC past the
instruction's bytes, performs the operation, and adds the cycle count and one instruction. RUNSTATE is R344's
termination test. The iteration number is the model's own (log 11). -/
def Obligations.StepRunsTheDecodedInstruction : Prop :=
  ∀ (s s' t : State) (sig : Signal) (i : Instr) (rest : List Byte),
    s.Polls sig s' → accepted sig s' = none → s'.halted = false →
    ¬(sig = .quit ∧ s'.params.quitOrder = .beforeStep) →
    decode (fetchBytes s') = .ok (i, rest) → i.wellFormed = true →
    ¬(s'.params.undocMode = .refuse ∧ isUndefined i = true) →
    exec i { s' with inhibit := false, pc := s'.pc + BitVec.ofNat 16 (encode i).length } = .next t →
    step s = .next { t with
      cycles := t.cycles + cycles i s', instrs := t.instrs + 1, iteration := t.iteration + 1
      runState := runStateAfter sig t.params t.pc t.runState }

/-- R67, R111: the bytes of the instruction at PC are read from PC, PC + 1 and PC + 2, as many as the
opcode byte says, the addresses wrapping; over plain RAM they are the bytes stored there. -/
def Obligations.FetchReadsTheBytesAtPc : Prop :=
  ∀ s : State, s.params.memPort = .ram →
    fetchBytes s = [s.mem.read s.pc, s.mem.read (s.pc + 1), s.mem.read (s.pc + 2)].take
      (opcodeLength (s.mem.read s.pc))

/-- 60_exceptions.md R341: an RST n that is accepted (R334) pushes PC, goes to 8n, clears IE and HALTED, adds 11
cycles and counts no instruction; every register, flag and other byte is untouched. RUNSTATE is the termination
test of R340 and R344. The iteration number is the model's own (log 11). -/
def Obligations.AcceptedInterruptEntersItsVector : Prop :=
  ∀ (s s' : State) (n : BitVec 3),
    s.Polls (.rst n) s' → s'.ie = true → s'.inhibit = false →
    ∃ t, step s = .next t ∧
      t = { s' with
        pc := BitVec.ofNat 16 (n.toNat * 8), sp := s'.sp - 2, mem := t.mem, ie := false, halted := false
        cycles := s'.cycles + 11, iteration := s'.iteration + 1
        runState := runStateAfter (.rst n) s'.params (BitVec.ofNat 16 (n.toNat * 8)) .running } ∧
      (s'.MemCanonical → Pushed s'.pc s' t) ∧ SameBytesBut [s'.sp - 1, s'.sp - 2] s'.mem t.mem

/-- R334: an RST n that comes while IE = 0 or INHIBIT = 1, listed or drawn, is discarded: the step is the one
the answer "no interrupt" would give. -/
def Obligations.UnacceptedInterruptIsDiscarded : Prop :=
  ∀ (s s' : State) (n : BitVec 3),
    s.Polls (.rst n) s' → (s'.ie = false ∨ s'.inhibit = true) →
    step s = step { s' with host := .answer .noInterrupt :: s'.host }

/-- R343: an idle halted iteration fetches nothing, changes no register, flag or memory byte, leaves HALTED
and adds `HALT_IDLE_CYCLES`. -/
def Obligations.HaltedBlockIdles : Prop :=
  ∀ (s s' : State) (sig : Signal),
    s.Polls sig s' → accepted sig s' = none → s'.halted = true →
    ¬(sig = .quit ∧ s'.params.quitOrder = .beforeStep) →
    step s = .next { s' with
      cycles := s'.cycles + s'.params.haltIdleCycles, iteration := s'.iteration + 1
      runState := runStateAfter sig s'.params s'.pc .running }

/-- While a run goes on, the halted state is left by an accepted interrupt only and entered by HLT only
(60_exceptions.md R343, R354), and only EI sets IE: no return does (10_state.md R35, 60_exceptions.md
R345). -/
def Obligations.OnlyHltHaltsOnlyEntryWakesOnlyEiEnables : Prop :=
  (∀ (s s' t : State) (sig : Signal), s.Polls sig s' → step s = .next t →
    (s.halted = true → t.halted = false → ∃ n, accepted sig s' = some n) ∧
    (s.halted = false → t.halted = true → ∃ rest, decode (fetchBytes s') = .ok (.hlt, rest))) ∧
  (∀ (s s' t : State) (sig : Signal), s.Polls sig s' → step s = .next t →
    s.ie = false → t.ie = true → ∃ rest, decode (fetchBytes s') = .ok (.ei, rest))

/-- R344: an iteration leaves the block Stopped exactly when the host answered Quit, or PC equals SENTINEL
at its end; otherwise the run goes on. With `QUIT_ORDER` = before_step a Quit changes nothing but RUNSTATE and
the iteration number, which is the model's own (log 11). -/
def Obligations.RunEndsByQuitOrSentinelOnly : Prop :=
  ∀ (s s' : State) (sig : Signal), s.Polls sig s' →
    (sig = .quit → s'.params.quitOrder = .beforeStep →
      step s = .next { s' with iteration := s'.iteration + 1, runState := .stopped }) ∧
    ∀ t, step s = .next t →
      (t.runState = .stopped ↔ sig = .quit ∨ t.params.sentinel = some t.pc) ∧
      (t.runState = .stopped ∨ t.runState = .running)

/-- The EI window (70_reset_and_hazards.md R377; 10_state.md R38): after the step of an instruction INHIBIT
is 1 exactly when that instruction was EI and `EI_DELAY` is 1, and while it is 1 no signal is accepted. -/
def Obligations.EiWindowCoversOneInstruction : Prop :=
  (∀ (s s' t : State) (sig : Signal) (i : Instr) (rest : List Byte),
    s.Polls sig s' → accepted sig s' = none → s'.halted = false →
    ¬(sig = .quit ∧ s'.params.quitOrder = .beforeStep) →
    decode (fetchBytes s') = .ok (i, rest) → step s = .next t →
      (t.inhibit = true ↔ i = .ei ∧ s'.params.eiDelay = true)) ∧
  ∀ (s : State) (sig : Signal), s.inhibit = true → accepted sig s = none

/-! ## Construction and the host -/

/-- R370: construction, for every value of the parameters and of `INIT_STATE`. -/
def Obligations.ConstructionSetsTheState : Prop :=
  ∀ (params : Params) (init : InitState),
    let s := State.construct params init
    (s.a = init.a ∧ s.b = init.b ∧ s.c = init.c ∧ s.d = init.d ∧ s.e = init.e ∧ s.h = init.h ∧ s.l = init.l) ∧
    s.sp = init.sp ∧ s.pc = init.pc ∧
    (s.flags.s = init.f.getLsbD 7 ∧ s.flags.z = init.f.getLsbD 6 ∧ s.flags.ac = init.f.getLsbD 4 ∧
      s.flags.p = init.f.getLsbD 2 ∧ s.flags.cy = init.f.getLsbD 0) ∧
    (s.f.getLsbD 5 = false ∧ s.f.getLsbD 3 = false ∧ s.f.getLsbD 1 = true) ∧
    s.ie = false ∧ s.halted = false ∧ s.inhibit = false ∧ s.cycles = 0 ∧ s.instrs = 0 ∧ s.runState = .idle

/-- R371: `Run(startAddress)` on a Ready or Stopped block sets PC, clears HALTED and INHIBIT and makes it
Running; IE and everything else, memory included, stay. -/
def Obligations.RunSetsPcAndKeepsTheRest : Prop :=
  ∀ (s : State) (start : Word) (rest : List HostMove),
    s.host = .run start :: rest → (s.runState = .ready ∨ s.runState = .stopped) →
    step s = .next { s with
      host := rest, pc := start, halted := false, inhibit := false, runState := .running }

/-- 10_state.md R40, 70_reset_and_hazards.md R374: from any idle block, attaching the two ports in either
order makes it Ready; attaching an empty controller changes nothing (60_exceptions.md R352, log 8). -/
def Obligations.AttachingBothPortsMakesTheBlockReady : Prop :=
  ∀ (s : State) (cells : List Host.Cell) (rest : List HostMove),
    s.runState = .idle → s.memAttached = false → s.ioAttached = false →
    (s.host = .attachMemory (some cells) :: .attachIo true :: rest →
      ∃ t u, step s = .next t ∧ t.runState = .idle ∧ step t = .next u ∧ u.runState = .ready ∧
        u.mem = Memory.ofCells cells) ∧
    (s.host = .attachIo true :: .attachMemory (some cells) :: rest →
      ∃ t u, step s = .next t ∧ t.runState = .idle ∧ step t = .next u ∧ u.runState = .ready ∧
        u.mem = Memory.ofCells cells) ∧
    (s.host = .attachMemory none :: rest ∨ s.host = .attachIo false :: rest →
      step s = .next { s with host := rest })

/-- Loading a saved snapshot reproduces CpuState and memory (70_reset_and_hazards.md R373; the property T8 of
95_test_vectors.md), and leaves HALTED, INHIBIT, the counters and RUNSTATE as they were; a tag that does not
match changes nothing. The premise on the saved state is an invariant of the model. Which fields a snapshot
carries is the model's reading (log 12); that a load into a block with no Memory Port attached acts all the
same, and what the image is over a Memory Port that is not plain RAM, are its choices (log 20, log 22). -/
def Obligations.SnapshotLoadRestoresCpuStateAndMemory : Prop :=
  ∀ (s saved : State) (rest : List HostMove), saved.FlagsPinned → saved.MemCanonical →
    (s.host = .snapshotLoad true saved.snapshot :: rest →
      step s = .next { s with
        host := rest, a := saved.a, b := saved.b, c := saved.c, d := saved.d, e := saved.e, h := saved.h
        l := saved.l, f := saved.f, sp := saved.sp, pc := saved.pc, ie := saved.ie, mem := saved.mem }) ∧
    (s.host = .snapshotLoad false saved.snapshot :: rest → step s = .next { s with host := rest })

/-! ## Whole machine -/

/-- No step faults (60_exceptions.md R330), and a step is refused only for an undefined byte when
`UNDOC_MODE` is refuse (R325), or for a host call made out of turn (log 7). -/
def Obligations.NoStepFaultsAndOnlyThreeThingsAreRefused : Prop :=
  ∀ s : State,
    (∀ r, step s ≠ .fault r) ∧
    ∀ r, step s = .refused r →
      (∃ i, isUndefined i = true ∧ s.params.undocMode = .refuse ∧ r = .undefinedOpcode (opcode i) s.pc) ∨
      (s.runState = .running ∧ r = .runDuringRun ∧ ∃ start rest, s.host = .run start :: rest) ∨
      (s.runState = .running ∧ r = .attachDuringRun ∧
        ∃ m rest, s.host = m :: rest ∧ ((∃ c, m = .attachMemory c) ∨ ∃ ok, m = .attachIo ok))

/-- With the source's alias policy (45_undocumented.md R320) and a host that makes no call out of turn,
every state has a next state: no opcode, address or data ends a run. -/
def Obligations.EveryStepCompletesUnderTheAliasPolicy : Prop :=
  ∀ s : State, s.params.undocMode = .runAlias → s.HostInTurn → ∃ t, step s = .next t

/-- The invariant: the fixed bits of F (10_state.md R28), the canonical form of memory, INHIBIT only with
`EI_DELAY` = 1 (R38), no EI window while halted, RUNSTATE Idle exactly until both ports are attached
(R40). Every step keeps it, from every state that has it; no step writes the parameters. -/
def Obligations.StepKeepsTheInvariant : Prop :=
  ∀ s t : State, s.Inv → step s = .next t → t.Inv ∧ t.params = s.params

/-- The invariant holds right after construction, for every value of the parameters and of `INIT_STATE`, and
so at `State.reset`. -/
def Obligations.ConstructionMeetsTheInvariant : Prop :=
  (∀ (params : Params) (init : InitState), (State.construct params init).Inv) ∧ State.reset.Inv
end

