-- ==== Sys2Proof/Laws/Exec.lean ====
section
/-! SUPPORT. The operation of an instruction named by its operands: one equation per family, so that a
proof about a family does not go through its constructors again. -/

namespace Sys2Proof.Machine

variable (s : State)

theorem exec_ofMov_reg (dst : Reg) (x : Loc) :
    exec (.ofMov (.reg dst) x) s = .next (opMov (.reg dst) x s) := by
  cases x with
  | m => cases dst <;> rfl
  | reg r => cases dst <;> cases r <;> rfl

theorem exec_ofMov_m (r : Reg) : exec (.ofMov .m (.reg r)) s = .next (opMov .m (.reg r) s) := by
  cases r <;> rfl

theorem exec_ofMvi (x : Loc) (v : Byte) : exec (.ofMvi x v) s = .next (opMvi x v s) := by
  cases x with
  | m => rfl
  | reg r => cases r <;> rfl

theorem exec_ofInr (x : Loc) : exec (.ofInr x) s = .next (opInr x s) := by
  cases x with
  | m => rfl
  | reg r => cases r <;> rfl

theorem exec_ofDcr (x : Loc) : exec (.ofDcr x) s = .next (opDcr x s) := by
  cases x with
  | m => rfl
  | reg r => cases r <;> rfl

theorem exec_ofLxi (rp : Pair) (w : Word) : exec (.ofLxi rp w) s = .next (opLxi rp w s) := by
  cases rp <;> rfl

theorem exec_ofInx (rp : Pair) : exec (.ofInx rp) s = .next (opInx rp s) := by cases rp <;> rfl

theorem exec_ofDcx (rp : Pair) : exec (.ofDcx rp) s = .next (opDcx rp s) := by cases rp <;> rfl

theorem exec_ofDad (rp : Pair) : exec (.ofDad rp) s = .next (opDad rp s) := by cases rp <;> rfl

theorem exec_ofLdax (rp : IndexPair) : exec (.ofLdax rp) s = .next (opLoadA (s.index rp) s) := by
  cases rp <;> rfl

theorem exec_ofStax (rp : IndexPair) : exec (.ofStax rp) s = .next (opStoreA (s.index rp) s) := by
  cases rp <;> rfl

theorem exec_ofPush (rp : StackPair) : exec (.ofPush rp) s = .next (opPush rp s) := by
  cases rp <;> rfl

theorem exec_ofPop (rp : StackPair) : exec (.ofPop rp) s = .next (opPop rp s) := by
  cases rp <;> rfl

theorem exec_ofJccc (cond : Cond) (addr : Word) :
    exec (.ofJccc cond addr) s = .next (opJumpIf cond addr s) := by
  cases cond <;> rfl

theorem exec_ofCccc (cond : Cond) (addr : Word) :
    exec (.ofCccc cond addr) s = .next (opCallIf cond addr s) := by
  cases cond <;> rfl

theorem exec_ofRccc (cond : Cond) : exec (.ofRccc cond) s = .next (opRetIf cond s) := by
  cases cond <;> rfl

theorem exec_ofRst : ∀ n : BitVec 3, exec (.ofRst n) s = .next (opRst n s)
  | 0#3 => rfl
  | 1#3 => rfl
  | 2#3 => rfl
  | 3#3 => rfl
  | 4#3 => rfl
  | 5#3 => rfl
  | 6#3 => rfl
  | 7#3 => rfl

/-- The operation of each ALU code on its second operand (30_encoding.md R99). -/
theorem exec_ofAlu (op : AluOp) (x : Loc) :
    exec (.ofAlu op x) s = .next (match op with
      | .add => opAdd (s.loc x) false s
      | .adc => opAdd (s.loc x) s.flags.cy s
      | .sub => opSub (s.loc x) false s
      | .sbb => opSub (s.loc x) s.flags.cy s
      | .ana => opAna (s.loc x) s
      | .xra => opXra (s.loc x) s
      | .ora => opOra (s.loc x) s
      | .cmp => opCmp (s.loc x) s) := by
  cases x with
  | m => cases op <;> rfl
  | reg r => cases op <;> cases r <;> rfl

/-- The same for the immediate form. -/
theorem exec_ofAluImm (op : AluOp) (v : Byte) :
    exec (.ofAluImm op v) s = .next (match op with
      | .add => opAdd v false s
      | .adc => opAdd v s.flags.cy s
      | .sub => opSub v false s
      | .sbb => opSub v s.flags.cy s
      | .ana => opAna v s
      | .xra => opXra v s
      | .ora => opOra v s
      | .cmp => opCmp v s) := by
  cases op <;> rfl

end Sys2Proof.Machine
end

