-- ==== Sys2Proof/Laws/State.lean ====
section
/-! SUPPORT. One lemma per field per named update: what each update leaves alone. No later proof unfolds a
record update. -/

namespace Sys2Proof.Machine

variable (s : State)

/-! ### setReg -/

@[simp] theorem State.setReg_f (r : Reg) (v : Byte) : (s.setReg r v).f = s.f := by cases r <;> rfl
@[simp] theorem State.setReg_sp (r : Reg) (v : Byte) : (s.setReg r v).sp = s.sp := by cases r <;> rfl
@[simp] theorem State.setReg_pc (r : Reg) (v : Byte) : (s.setReg r v).pc = s.pc := by cases r <;> rfl
@[simp] theorem State.setReg_ie (r : Reg) (v : Byte) : (s.setReg r v).ie = s.ie := by cases r <;> rfl
@[simp] theorem State.setReg_inhibit (r : Reg) (v : Byte) : (s.setReg r v).inhibit = s.inhibit := by cases r <;> rfl
@[simp] theorem State.setReg_halted (r : Reg) (v : Byte) : (s.setReg r v).halted = s.halted := by cases r <;> rfl
@[simp] theorem State.setReg_cycles (r : Reg) (v : Byte) : (s.setReg r v).cycles = s.cycles := by cases r <;> rfl
@[simp] theorem State.setReg_instrs (r : Reg) (v : Byte) : (s.setReg r v).instrs = s.instrs := by cases r <;> rfl
@[simp] theorem State.setReg_runState (r : Reg) (v : Byte) : (s.setReg r v).runState = s.runState := by cases r <;> rfl
@[simp] theorem State.setReg_mem (r : Reg) (v : Byte) : (s.setReg r v).mem = s.mem := by cases r <;> rfl
@[simp] theorem State.setReg_memAttached (r : Reg) (v : Byte) : (s.setReg r v).memAttached = s.memAttached := by cases r <;> rfl
@[simp] theorem State.setReg_ioAttached (r : Reg) (v : Byte) : (s.setReg r v).ioAttached = s.ioAttached := by cases r <;> rfl
@[simp] theorem State.setReg_params (r : Reg) (v : Byte) : (s.setReg r v).params = s.params := by cases r <;> rfl
@[simp] theorem State.setReg_host (r : Reg) (v : Byte) : (s.setReg r v).host = s.host := by cases r <;> rfl
@[simp] theorem State.setReg_ioAnswers (r : Reg) (v : Byte) : (s.setReg r v).ioAnswers = s.ioAnswers := by cases r <;> rfl
@[simp] theorem State.setReg_ioLog (r : Reg) (v : Byte) : (s.setReg r v).ioLog = s.ioLog := by cases r <;> rfl
@[simp] theorem State.setReg_iteration (r : Reg) (v : Byte) : (s.setReg r v).iteration = s.iteration := by cases r <;> rfl

/-! ### setPair -/

@[simp] theorem State.setPair_a (rp : Pair) (v : Word) : (s.setPair rp v).a = s.a := by cases rp <;> rfl
@[simp] theorem State.setPair_f (rp : Pair) (v : Word) : (s.setPair rp v).f = s.f := by cases rp <;> rfl
@[simp] theorem State.setPair_pc (rp : Pair) (v : Word) : (s.setPair rp v).pc = s.pc := by cases rp <;> rfl
@[simp] theorem State.setPair_ie (rp : Pair) (v : Word) : (s.setPair rp v).ie = s.ie := by cases rp <;> rfl
@[simp] theorem State.setPair_inhibit (rp : Pair) (v : Word) : (s.setPair rp v).inhibit = s.inhibit := by cases rp <;> rfl
@[simp] theorem State.setPair_halted (rp : Pair) (v : Word) : (s.setPair rp v).halted = s.halted := by cases rp <;> rfl
@[simp] theorem State.setPair_cycles (rp : Pair) (v : Word) : (s.setPair rp v).cycles = s.cycles := by cases rp <;> rfl
@[simp] theorem State.setPair_instrs (rp : Pair) (v : Word) : (s.setPair rp v).instrs = s.instrs := by cases rp <;> rfl
@[simp] theorem State.setPair_runState (rp : Pair) (v : Word) : (s.setPair rp v).runState = s.runState := by cases rp <;> rfl
@[simp] theorem State.setPair_mem (rp : Pair) (v : Word) : (s.setPair rp v).mem = s.mem := by cases rp <;> rfl
@[simp] theorem State.setPair_memAttached (rp : Pair) (v : Word) : (s.setPair rp v).memAttached = s.memAttached := by cases rp <;> rfl
@[simp] theorem State.setPair_ioAttached (rp : Pair) (v : Word) : (s.setPair rp v).ioAttached = s.ioAttached := by cases rp <;> rfl
@[simp] theorem State.setPair_params (rp : Pair) (v : Word) : (s.setPair rp v).params = s.params := by cases rp <;> rfl
@[simp] theorem State.setPair_host (rp : Pair) (v : Word) : (s.setPair rp v).host = s.host := by cases rp <;> rfl
@[simp] theorem State.setPair_ioAnswers (rp : Pair) (v : Word) : (s.setPair rp v).ioAnswers = s.ioAnswers := by cases rp <;> rfl
@[simp] theorem State.setPair_ioLog (rp : Pair) (v : Word) : (s.setPair rp v).ioLog = s.ioLog := by cases rp <;> rfl
@[simp] theorem State.setPair_iteration (rp : Pair) (v : Word) : (s.setPair rp v).iteration = s.iteration := by cases rp <;> rfl

/-! ### putFlags -/

@[simp] theorem State.putFlags_a (fl : Flags) : (s.putFlags fl).a = s.a := rfl
@[simp] theorem State.putFlags_b (fl : Flags) : (s.putFlags fl).b = s.b := rfl
@[simp] theorem State.putFlags_c (fl : Flags) : (s.putFlags fl).c = s.c := rfl
@[simp] theorem State.putFlags_d (fl : Flags) : (s.putFlags fl).d = s.d := rfl
@[simp] theorem State.putFlags_e (fl : Flags) : (s.putFlags fl).e = s.e := rfl
@[simp] theorem State.putFlags_h (fl : Flags) : (s.putFlags fl).h = s.h := rfl
@[simp] theorem State.putFlags_l (fl : Flags) : (s.putFlags fl).l = s.l := rfl
@[simp] theorem State.putFlags_sp (fl : Flags) : (s.putFlags fl).sp = s.sp := rfl
@[simp] theorem State.putFlags_pc (fl : Flags) : (s.putFlags fl).pc = s.pc := rfl
@[simp] theorem State.putFlags_ie (fl : Flags) : (s.putFlags fl).ie = s.ie := rfl
@[simp] theorem State.putFlags_inhibit (fl : Flags) : (s.putFlags fl).inhibit = s.inhibit := rfl
@[simp] theorem State.putFlags_halted (fl : Flags) : (s.putFlags fl).halted = s.halted := rfl
@[simp] theorem State.putFlags_cycles (fl : Flags) : (s.putFlags fl).cycles = s.cycles := rfl
@[simp] theorem State.putFlags_instrs (fl : Flags) : (s.putFlags fl).instrs = s.instrs := rfl
@[simp] theorem State.putFlags_runState (fl : Flags) : (s.putFlags fl).runState = s.runState := rfl
@[simp] theorem State.putFlags_mem (fl : Flags) : (s.putFlags fl).mem = s.mem := rfl
@[simp] theorem State.putFlags_memAttached (fl : Flags) : (s.putFlags fl).memAttached = s.memAttached := rfl
@[simp] theorem State.putFlags_ioAttached (fl : Flags) : (s.putFlags fl).ioAttached = s.ioAttached := rfl
@[simp] theorem State.putFlags_params (fl : Flags) : (s.putFlags fl).params = s.params := rfl
@[simp] theorem State.putFlags_host (fl : Flags) : (s.putFlags fl).host = s.host := rfl
@[simp] theorem State.putFlags_ioAnswers (fl : Flags) : (s.putFlags fl).ioAnswers = s.ioAnswers := rfl
@[simp] theorem State.putFlags_ioLog (fl : Flags) : (s.putFlags fl).ioLog = s.ioLog := rfl
@[simp] theorem State.putFlags_iteration (fl : Flags) : (s.putFlags fl).iteration = s.iteration := rfl

/-! ### putCy -/

@[simp] theorem State.putCy_a (cy : Bool) : (s.putCy cy).a = s.a := rfl
@[simp] theorem State.putCy_b (cy : Bool) : (s.putCy cy).b = s.b := rfl
@[simp] theorem State.putCy_c (cy : Bool) : (s.putCy cy).c = s.c := rfl
@[simp] theorem State.putCy_d (cy : Bool) : (s.putCy cy).d = s.d := rfl
@[simp] theorem State.putCy_e (cy : Bool) : (s.putCy cy).e = s.e := rfl
@[simp] theorem State.putCy_h (cy : Bool) : (s.putCy cy).h = s.h := rfl
@[simp] theorem State.putCy_l (cy : Bool) : (s.putCy cy).l = s.l := rfl
@[simp] theorem State.putCy_sp (cy : Bool) : (s.putCy cy).sp = s.sp := rfl
@[simp] theorem State.putCy_pc (cy : Bool) : (s.putCy cy).pc = s.pc := rfl
@[simp] theorem State.putCy_ie (cy : Bool) : (s.putCy cy).ie = s.ie := rfl
@[simp] theorem State.putCy_inhibit (cy : Bool) : (s.putCy cy).inhibit = s.inhibit := rfl
@[simp] theorem State.putCy_halted (cy : Bool) : (s.putCy cy).halted = s.halted := rfl
@[simp] theorem State.putCy_cycles (cy : Bool) : (s.putCy cy).cycles = s.cycles := rfl
@[simp] theorem State.putCy_instrs (cy : Bool) : (s.putCy cy).instrs = s.instrs := rfl
@[simp] theorem State.putCy_runState (cy : Bool) : (s.putCy cy).runState = s.runState := rfl
@[simp] theorem State.putCy_mem (cy : Bool) : (s.putCy cy).mem = s.mem := rfl
@[simp] theorem State.putCy_memAttached (cy : Bool) : (s.putCy cy).memAttached = s.memAttached := rfl
@[simp] theorem State.putCy_ioAttached (cy : Bool) : (s.putCy cy).ioAttached = s.ioAttached := rfl
@[simp] theorem State.putCy_params (cy : Bool) : (s.putCy cy).params = s.params := rfl
@[simp] theorem State.putCy_host (cy : Bool) : (s.putCy cy).host = s.host := rfl
@[simp] theorem State.putCy_ioAnswers (cy : Bool) : (s.putCy cy).ioAnswers = s.ioAnswers := rfl
@[simp] theorem State.putCy_ioLog (cy : Bool) : (s.putCy cy).ioLog = s.ioLog := rfl
@[simp] theorem State.putCy_iteration (cy : Bool) : (s.putCy cy).iteration = s.iteration := rfl

/-! ### write -/

@[simp] theorem State.write_a (addr : Word) (v : Byte) : (s.write addr v).a = s.a := rfl
@[simp] theorem State.write_b (addr : Word) (v : Byte) : (s.write addr v).b = s.b := rfl
@[simp] theorem State.write_c (addr : Word) (v : Byte) : (s.write addr v).c = s.c := rfl
@[simp] theorem State.write_d (addr : Word) (v : Byte) : (s.write addr v).d = s.d := rfl
@[simp] theorem State.write_e (addr : Word) (v : Byte) : (s.write addr v).e = s.e := rfl
@[simp] theorem State.write_h (addr : Word) (v : Byte) : (s.write addr v).h = s.h := rfl
@[simp] theorem State.write_l (addr : Word) (v : Byte) : (s.write addr v).l = s.l := rfl
@[simp] theorem State.write_f (addr : Word) (v : Byte) : (s.write addr v).f = s.f := rfl
@[simp] theorem State.write_sp (addr : Word) (v : Byte) : (s.write addr v).sp = s.sp := rfl
@[simp] theorem State.write_pc (addr : Word) (v : Byte) : (s.write addr v).pc = s.pc := rfl
@[simp] theorem State.write_ie (addr : Word) (v : Byte) : (s.write addr v).ie = s.ie := rfl
@[simp] theorem State.write_inhibit (addr : Word) (v : Byte) : (s.write addr v).inhibit = s.inhibit := rfl
@[simp] theorem State.write_halted (addr : Word) (v : Byte) : (s.write addr v).halted = s.halted := rfl
@[simp] theorem State.write_cycles (addr : Word) (v : Byte) : (s.write addr v).cycles = s.cycles := rfl
@[simp] theorem State.write_instrs (addr : Word) (v : Byte) : (s.write addr v).instrs = s.instrs := rfl
@[simp] theorem State.write_runState (addr : Word) (v : Byte) : (s.write addr v).runState = s.runState := rfl
@[simp] theorem State.write_memAttached (addr : Word) (v : Byte) : (s.write addr v).memAttached = s.memAttached := rfl
@[simp] theorem State.write_ioAttached (addr : Word) (v : Byte) : (s.write addr v).ioAttached = s.ioAttached := rfl
@[simp] theorem State.write_params (addr : Word) (v : Byte) : (s.write addr v).params = s.params := rfl
@[simp] theorem State.write_host (addr : Word) (v : Byte) : (s.write addr v).host = s.host := rfl
@[simp] theorem State.write_ioAnswers (addr : Word) (v : Byte) : (s.write addr v).ioAnswers = s.ioAnswers := rfl
@[simp] theorem State.write_ioLog (addr : Word) (v : Byte) : (s.write addr v).ioLog = s.ioLog := rfl
@[simp] theorem State.write_iteration (addr : Word) (v : Byte) : (s.write addr v).iteration = s.iteration := rfl

/-! ### write16 -/

@[simp] theorem State.write16_a (addr v : Word) : (s.write16 addr v).a = s.a := rfl
@[simp] theorem State.write16_b (addr v : Word) : (s.write16 addr v).b = s.b := rfl
@[simp] theorem State.write16_c (addr v : Word) : (s.write16 addr v).c = s.c := rfl
@[simp] theorem State.write16_d (addr v : Word) : (s.write16 addr v).d = s.d := rfl
@[simp] theorem State.write16_e (addr v : Word) : (s.write16 addr v).e = s.e := rfl
@[simp] theorem State.write16_h (addr v : Word) : (s.write16 addr v).h = s.h := rfl
@[simp] theorem State.write16_l (addr v : Word) : (s.write16 addr v).l = s.l := rfl
@[simp] theorem State.write16_f (addr v : Word) : (s.write16 addr v).f = s.f := rfl
@[simp] theorem State.write16_sp (addr v : Word) : (s.write16 addr v).sp = s.sp := rfl
@[simp] theorem State.write16_pc (addr v : Word) : (s.write16 addr v).pc = s.pc := rfl
@[simp] theorem State.write16_ie (addr v : Word) : (s.write16 addr v).ie = s.ie := rfl
@[simp] theorem State.write16_inhibit (addr v : Word) : (s.write16 addr v).inhibit = s.inhibit := rfl
@[simp] theorem State.write16_halted (addr v : Word) : (s.write16 addr v).halted = s.halted := rfl
@[simp] theorem State.write16_cycles (addr v : Word) : (s.write16 addr v).cycles = s.cycles := rfl
@[simp] theorem State.write16_instrs (addr v : Word) : (s.write16 addr v).instrs = s.instrs := rfl
@[simp] theorem State.write16_runState (addr v : Word) : (s.write16 addr v).runState = s.runState := rfl
@[simp] theorem State.write16_memAttached (addr v : Word) : (s.write16 addr v).memAttached = s.memAttached := rfl
@[simp] theorem State.write16_ioAttached (addr v : Word) : (s.write16 addr v).ioAttached = s.ioAttached := rfl
@[simp] theorem State.write16_params (addr v : Word) : (s.write16 addr v).params = s.params := rfl
@[simp] theorem State.write16_host (addr v : Word) : (s.write16 addr v).host = s.host := rfl
@[simp] theorem State.write16_ioAnswers (addr v : Word) : (s.write16 addr v).ioAnswers = s.ioAnswers := rfl
@[simp] theorem State.write16_ioLog (addr v : Word) : (s.write16 addr v).ioLog = s.ioLog := rfl
@[simp] theorem State.write16_iteration (addr v : Word) : (s.write16 addr v).iteration = s.iteration := rfl

/-! ### pushByte -/

@[simp] theorem State.pushByte_a (v : Byte) : (s.pushByte v).a = s.a := rfl
@[simp] theorem State.pushByte_b (v : Byte) : (s.pushByte v).b = s.b := rfl
@[simp] theorem State.pushByte_c (v : Byte) : (s.pushByte v).c = s.c := rfl
@[simp] theorem State.pushByte_d (v : Byte) : (s.pushByte v).d = s.d := rfl
@[simp] theorem State.pushByte_e (v : Byte) : (s.pushByte v).e = s.e := rfl
@[simp] theorem State.pushByte_h (v : Byte) : (s.pushByte v).h = s.h := rfl
@[simp] theorem State.pushByte_l (v : Byte) : (s.pushByte v).l = s.l := rfl
@[simp] theorem State.pushByte_f (v : Byte) : (s.pushByte v).f = s.f := rfl
@[simp] theorem State.pushByte_pc (v : Byte) : (s.pushByte v).pc = s.pc := rfl
@[simp] theorem State.pushByte_ie (v : Byte) : (s.pushByte v).ie = s.ie := rfl
@[simp] theorem State.pushByte_inhibit (v : Byte) : (s.pushByte v).inhibit = s.inhibit := rfl
@[simp] theorem State.pushByte_halted (v : Byte) : (s.pushByte v).halted = s.halted := rfl
@[simp] theorem State.pushByte_cycles (v : Byte) : (s.pushByte v).cycles = s.cycles := rfl
@[simp] theorem State.pushByte_instrs (v : Byte) : (s.pushByte v).instrs = s.instrs := rfl
@[simp] theorem State.pushByte_runState (v : Byte) : (s.pushByte v).runState = s.runState := rfl
@[simp] theorem State.pushByte_memAttached (v : Byte) : (s.pushByte v).memAttached = s.memAttached := rfl
@[simp] theorem State.pushByte_ioAttached (v : Byte) : (s.pushByte v).ioAttached = s.ioAttached := rfl
@[simp] theorem State.pushByte_params (v : Byte) : (s.pushByte v).params = s.params := rfl
@[simp] theorem State.pushByte_host (v : Byte) : (s.pushByte v).host = s.host := rfl
@[simp] theorem State.pushByte_ioAnswers (v : Byte) : (s.pushByte v).ioAnswers = s.ioAnswers := rfl
@[simp] theorem State.pushByte_ioLog (v : Byte) : (s.pushByte v).ioLog = s.ioLog := rfl
@[simp] theorem State.pushByte_iteration (v : Byte) : (s.pushByte v).iteration = s.iteration := rfl

/-! ### push16 -/

@[simp] theorem State.push16_a (v : Word) : (s.push16 v).a = s.a := rfl
@[simp] theorem State.push16_b (v : Word) : (s.push16 v).b = s.b := rfl
@[simp] theorem State.push16_c (v : Word) : (s.push16 v).c = s.c := rfl
@[simp] theorem State.push16_d (v : Word) : (s.push16 v).d = s.d := rfl
@[simp] theorem State.push16_e (v : Word) : (s.push16 v).e = s.e := rfl
@[simp] theorem State.push16_h (v : Word) : (s.push16 v).h = s.h := rfl
@[simp] theorem State.push16_l (v : Word) : (s.push16 v).l = s.l := rfl
@[simp] theorem State.push16_f (v : Word) : (s.push16 v).f = s.f := rfl
@[simp] theorem State.push16_pc (v : Word) : (s.push16 v).pc = s.pc := rfl
@[simp] theorem State.push16_ie (v : Word) : (s.push16 v).ie = s.ie := rfl
@[simp] theorem State.push16_inhibit (v : Word) : (s.push16 v).inhibit = s.inhibit := rfl
@[simp] theorem State.push16_halted (v : Word) : (s.push16 v).halted = s.halted := rfl
@[simp] theorem State.push16_cycles (v : Word) : (s.push16 v).cycles = s.cycles := rfl
@[simp] theorem State.push16_instrs (v : Word) : (s.push16 v).instrs = s.instrs := rfl
@[simp] theorem State.push16_runState (v : Word) : (s.push16 v).runState = s.runState := rfl
@[simp] theorem State.push16_memAttached (v : Word) : (s.push16 v).memAttached = s.memAttached := rfl
@[simp] theorem State.push16_ioAttached (v : Word) : (s.push16 v).ioAttached = s.ioAttached := rfl
@[simp] theorem State.push16_params (v : Word) : (s.push16 v).params = s.params := rfl
@[simp] theorem State.push16_host (v : Word) : (s.push16 v).host = s.host := rfl
@[simp] theorem State.push16_ioAnswers (v : Word) : (s.push16 v).ioAnswers = s.ioAnswers := rfl
@[simp] theorem State.push16_ioLog (v : Word) : (s.push16 v).ioLog = s.ioLog := rfl
@[simp] theorem State.push16_iteration (v : Word) : (s.push16 v).iteration = s.iteration := rfl

/-! ### popPc -/

@[simp] theorem State.popPc_a : (s.popPc).a = s.a := rfl
@[simp] theorem State.popPc_b : (s.popPc).b = s.b := rfl
@[simp] theorem State.popPc_c : (s.popPc).c = s.c := rfl
@[simp] theorem State.popPc_d : (s.popPc).d = s.d := rfl
@[simp] theorem State.popPc_e : (s.popPc).e = s.e := rfl
@[simp] theorem State.popPc_h : (s.popPc).h = s.h := rfl
@[simp] theorem State.popPc_l : (s.popPc).l = s.l := rfl
@[simp] theorem State.popPc_f : (s.popPc).f = s.f := rfl
@[simp] theorem State.popPc_ie : (s.popPc).ie = s.ie := rfl
@[simp] theorem State.popPc_inhibit : (s.popPc).inhibit = s.inhibit := rfl
@[simp] theorem State.popPc_halted : (s.popPc).halted = s.halted := rfl
@[simp] theorem State.popPc_cycles : (s.popPc).cycles = s.cycles := rfl
@[simp] theorem State.popPc_instrs : (s.popPc).instrs = s.instrs := rfl
@[simp] theorem State.popPc_runState : (s.popPc).runState = s.runState := rfl
@[simp] theorem State.popPc_mem : (s.popPc).mem = s.mem := rfl
@[simp] theorem State.popPc_memAttached : (s.popPc).memAttached = s.memAttached := rfl
@[simp] theorem State.popPc_ioAttached : (s.popPc).ioAttached = s.ioAttached := rfl
@[simp] theorem State.popPc_params : (s.popPc).params = s.params := rfl
@[simp] theorem State.popPc_host : (s.popPc).host = s.host := rfl
@[simp] theorem State.popPc_ioAnswers : (s.popPc).ioAnswers = s.ioAnswers := rfl
@[simp] theorem State.popPc_ioLog : (s.popPc).ioLog = s.ioLog := rfl
@[simp] theorem State.popPc_iteration : (s.popPc).iteration = s.iteration := rfl

/-! ### afterIoRead -/

@[simp] theorem State.afterIoRead_a (port : Byte) : (s.afterIoRead port).a = s.a := rfl
@[simp] theorem State.afterIoRead_b (port : Byte) : (s.afterIoRead port).b = s.b := rfl
@[simp] theorem State.afterIoRead_c (port : Byte) : (s.afterIoRead port).c = s.c := rfl
@[simp] theorem State.afterIoRead_d (port : Byte) : (s.afterIoRead port).d = s.d := rfl
@[simp] theorem State.afterIoRead_e (port : Byte) : (s.afterIoRead port).e = s.e := rfl
@[simp] theorem State.afterIoRead_h (port : Byte) : (s.afterIoRead port).h = s.h := rfl
@[simp] theorem State.afterIoRead_l (port : Byte) : (s.afterIoRead port).l = s.l := rfl
@[simp] theorem State.afterIoRead_f (port : Byte) : (s.afterIoRead port).f = s.f := rfl
@[simp] theorem State.afterIoRead_sp (port : Byte) : (s.afterIoRead port).sp = s.sp := rfl
@[simp] theorem State.afterIoRead_pc (port : Byte) : (s.afterIoRead port).pc = s.pc := rfl
@[simp] theorem State.afterIoRead_ie (port : Byte) : (s.afterIoRead port).ie = s.ie := rfl
@[simp] theorem State.afterIoRead_inhibit (port : Byte) : (s.afterIoRead port).inhibit = s.inhibit := rfl
@[simp] theorem State.afterIoRead_halted (port : Byte) : (s.afterIoRead port).halted = s.halted := rfl
@[simp] theorem State.afterIoRead_cycles (port : Byte) : (s.afterIoRead port).cycles = s.cycles := rfl
@[simp] theorem State.afterIoRead_instrs (port : Byte) : (s.afterIoRead port).instrs = s.instrs := rfl
@[simp] theorem State.afterIoRead_runState (port : Byte) : (s.afterIoRead port).runState = s.runState := rfl
@[simp] theorem State.afterIoRead_mem (port : Byte) : (s.afterIoRead port).mem = s.mem := rfl
@[simp] theorem State.afterIoRead_memAttached (port : Byte) : (s.afterIoRead port).memAttached = s.memAttached := rfl
@[simp] theorem State.afterIoRead_ioAttached (port : Byte) : (s.afterIoRead port).ioAttached = s.ioAttached := rfl
@[simp] theorem State.afterIoRead_params (port : Byte) : (s.afterIoRead port).params = s.params := rfl
@[simp] theorem State.afterIoRead_host (port : Byte) : (s.afterIoRead port).host = s.host := rfl
@[simp] theorem State.afterIoRead_iteration (port : Byte) : (s.afterIoRead port).iteration = s.iteration := rfl

/-! ### ioWrite -/

@[simp] theorem State.ioWrite_a (port v : Byte) : (s.ioWrite port v).a = s.a := rfl
@[simp] theorem State.ioWrite_b (port v : Byte) : (s.ioWrite port v).b = s.b := rfl
@[simp] theorem State.ioWrite_c (port v : Byte) : (s.ioWrite port v).c = s.c := rfl
@[simp] theorem State.ioWrite_d (port v : Byte) : (s.ioWrite port v).d = s.d := rfl
@[simp] theorem State.ioWrite_e (port v : Byte) : (s.ioWrite port v).e = s.e := rfl
@[simp] theorem State.ioWrite_h (port v : Byte) : (s.ioWrite port v).h = s.h := rfl
@[simp] theorem State.ioWrite_l (port v : Byte) : (s.ioWrite port v).l = s.l := rfl
@[simp] theorem State.ioWrite_f (port v : Byte) : (s.ioWrite port v).f = s.f := rfl
@[simp] theorem State.ioWrite_sp (port v : Byte) : (s.ioWrite port v).sp = s.sp := rfl
@[simp] theorem State.ioWrite_pc (port v : Byte) : (s.ioWrite port v).pc = s.pc := rfl
@[simp] theorem State.ioWrite_ie (port v : Byte) : (s.ioWrite port v).ie = s.ie := rfl
@[simp] theorem State.ioWrite_inhibit (port v : Byte) : (s.ioWrite port v).inhibit = s.inhibit := rfl
@[simp] theorem State.ioWrite_halted (port v : Byte) : (s.ioWrite port v).halted = s.halted := rfl
@[simp] theorem State.ioWrite_cycles (port v : Byte) : (s.ioWrite port v).cycles = s.cycles := rfl
@[simp] theorem State.ioWrite_instrs (port v : Byte) : (s.ioWrite port v).instrs = s.instrs := rfl
@[simp] theorem State.ioWrite_runState (port v : Byte) : (s.ioWrite port v).runState = s.runState := rfl
@[simp] theorem State.ioWrite_mem (port v : Byte) : (s.ioWrite port v).mem = s.mem := rfl
@[simp] theorem State.ioWrite_memAttached (port v : Byte) : (s.ioWrite port v).memAttached = s.memAttached := rfl
@[simp] theorem State.ioWrite_ioAttached (port v : Byte) : (s.ioWrite port v).ioAttached = s.ioAttached := rfl
@[simp] theorem State.ioWrite_params (port v : Byte) : (s.ioWrite port v).params = s.params := rfl
@[simp] theorem State.ioWrite_host (port v : Byte) : (s.ioWrite port v).host = s.host := rfl
@[simp] theorem State.ioWrite_ioAnswers (port v : Byte) : (s.ioWrite port v).ioAnswers = s.ioAnswers := rfl
@[simp] theorem State.ioWrite_iteration (port v : Byte) : (s.ioWrite port v).iteration = s.iteration := rfl

/-! ### interruptEntry -/

@[simp] theorem State.interruptEntry_a (n : BitVec 3) : (s.interruptEntry n).a = s.a := rfl
@[simp] theorem State.interruptEntry_b (n : BitVec 3) : (s.interruptEntry n).b = s.b := rfl
@[simp] theorem State.interruptEntry_c (n : BitVec 3) : (s.interruptEntry n).c = s.c := rfl
@[simp] theorem State.interruptEntry_d (n : BitVec 3) : (s.interruptEntry n).d = s.d := rfl
@[simp] theorem State.interruptEntry_e (n : BitVec 3) : (s.interruptEntry n).e = s.e := rfl
@[simp] theorem State.interruptEntry_h (n : BitVec 3) : (s.interruptEntry n).h = s.h := rfl
@[simp] theorem State.interruptEntry_l (n : BitVec 3) : (s.interruptEntry n).l = s.l := rfl
@[simp] theorem State.interruptEntry_f (n : BitVec 3) : (s.interruptEntry n).f = s.f := rfl
@[simp] theorem State.interruptEntry_inhibit (n : BitVec 3) : (s.interruptEntry n).inhibit = s.inhibit := rfl
@[simp] theorem State.interruptEntry_instrs (n : BitVec 3) : (s.interruptEntry n).instrs = s.instrs := rfl
@[simp] theorem State.interruptEntry_runState (n : BitVec 3) : (s.interruptEntry n).runState = s.runState := rfl
@[simp] theorem State.interruptEntry_memAttached (n : BitVec 3) : (s.interruptEntry n).memAttached = s.memAttached := rfl
@[simp] theorem State.interruptEntry_ioAttached (n : BitVec 3) : (s.interruptEntry n).ioAttached = s.ioAttached := rfl
@[simp] theorem State.interruptEntry_params (n : BitVec 3) : (s.interruptEntry n).params = s.params := rfl
@[simp] theorem State.interruptEntry_host (n : BitVec 3) : (s.interruptEntry n).host = s.host := rfl
@[simp] theorem State.interruptEntry_ioAnswers (n : BitVec 3) : (s.interruptEntry n).ioAnswers = s.ioAnswers := rfl
@[simp] theorem State.interruptEntry_ioLog (n : BitVec 3) : (s.interruptEntry n).ioLog = s.ioLog := rfl
@[simp] theorem State.interruptEntry_iteration (n : BitVec 3) : (s.interruptEntry n).iteration = s.iteration := rfl

/-! ### setLoc -/

@[simp] theorem State.setLoc_f (x : Loc) (v : Byte) : (s.setLoc x v).f = s.f := by
  cases x with
  | reg r => cases r <;> rfl
  | m => rfl
@[simp] theorem State.setLoc_sp (x : Loc) (v : Byte) : (s.setLoc x v).sp = s.sp := by
  cases x with
  | reg r => cases r <;> rfl
  | m => rfl
@[simp] theorem State.setLoc_pc (x : Loc) (v : Byte) : (s.setLoc x v).pc = s.pc := by
  cases x with
  | reg r => cases r <;> rfl
  | m => rfl
@[simp] theorem State.setLoc_ie (x : Loc) (v : Byte) : (s.setLoc x v).ie = s.ie := by
  cases x with
  | reg r => cases r <;> rfl
  | m => rfl
@[simp] theorem State.setLoc_inhibit (x : Loc) (v : Byte) : (s.setLoc x v).inhibit = s.inhibit := by
  cases x with
  | reg r => cases r <;> rfl
  | m => rfl
@[simp] theorem State.setLoc_halted (x : Loc) (v : Byte) : (s.setLoc x v).halted = s.halted := by
  cases x with
  | reg r => cases r <;> rfl
  | m => rfl
@[simp] theorem State.setLoc_cycles (x : Loc) (v : Byte) : (s.setLoc x v).cycles = s.cycles := by
  cases x with
  | reg r => cases r <;> rfl
  | m => rfl
@[simp] theorem State.setLoc_instrs (x : Loc) (v : Byte) : (s.setLoc x v).instrs = s.instrs := by
  cases x with
  | reg r => cases r <;> rfl
  | m => rfl
@[simp] theorem State.setLoc_runState (x : Loc) (v : Byte) : (s.setLoc x v).runState = s.runState := by
  cases x with
  | reg r => cases r <;> rfl
  | m => rfl
@[simp] theorem State.setLoc_memAttached (x : Loc) (v : Byte) : (s.setLoc x v).memAttached = s.memAttached := by
  cases x with
  | reg r => cases r <;> rfl
  | m => rfl
@[simp] theorem State.setLoc_ioAttached (x : Loc) (v : Byte) : (s.setLoc x v).ioAttached = s.ioAttached := by
  cases x with
  | reg r => cases r <;> rfl
  | m => rfl
@[simp] theorem State.setLoc_params (x : Loc) (v : Byte) : (s.setLoc x v).params = s.params := by
  cases x with
  | reg r => cases r <;> rfl
  | m => rfl
@[simp] theorem State.setLoc_host (x : Loc) (v : Byte) : (s.setLoc x v).host = s.host := by
  cases x with
  | reg r => cases r <;> rfl
  | m => rfl
@[simp] theorem State.setLoc_ioAnswers (x : Loc) (v : Byte) : (s.setLoc x v).ioAnswers = s.ioAnswers := by
  cases x with
  | reg r => cases r <;> rfl
  | m => rfl
@[simp] theorem State.setLoc_ioLog (x : Loc) (v : Byte) : (s.setLoc x v).ioLog = s.ioLog := by
  cases x with
  | reg r => cases r <;> rfl
  | m => rfl
@[simp] theorem State.setLoc_iteration (x : Loc) (v : Byte) : (s.setLoc x v).iteration = s.iteration := by
  cases x with
  | reg r => cases r <;> rfl
  | m => rfl

/-! ### setStackPair -/

@[simp] theorem State.setStackPair_sp (rp : StackPair) (v : Word) : (s.setStackPair rp v).sp = s.sp := by cases rp <;> rfl
@[simp] theorem State.setStackPair_pc (rp : StackPair) (v : Word) : (s.setStackPair rp v).pc = s.pc := by cases rp <;> rfl
@[simp] theorem State.setStackPair_ie (rp : StackPair) (v : Word) : (s.setStackPair rp v).ie = s.ie := by cases rp <;> rfl
@[simp] theorem State.setStackPair_inhibit (rp : StackPair) (v : Word) : (s.setStackPair rp v).inhibit = s.inhibit := by cases rp <;> rfl
@[simp] theorem State.setStackPair_halted (rp : StackPair) (v : Word) : (s.setStackPair rp v).halted = s.halted := by cases rp <;> rfl
@[simp] theorem State.setStackPair_cycles (rp : StackPair) (v : Word) : (s.setStackPair rp v).cycles = s.cycles := by cases rp <;> rfl
@[simp] theorem State.setStackPair_instrs (rp : StackPair) (v : Word) : (s.setStackPair rp v).instrs = s.instrs := by cases rp <;> rfl
@[simp] theorem State.setStackPair_runState (rp : StackPair) (v : Word) : (s.setStackPair rp v).runState = s.runState := by cases rp <;> rfl
@[simp] theorem State.setStackPair_mem (rp : StackPair) (v : Word) : (s.setStackPair rp v).mem = s.mem := by cases rp <;> rfl
@[simp] theorem State.setStackPair_memAttached (rp : StackPair) (v : Word) : (s.setStackPair rp v).memAttached = s.memAttached := by cases rp <;> rfl
@[simp] theorem State.setStackPair_ioAttached (rp : StackPair) (v : Word) : (s.setStackPair rp v).ioAttached = s.ioAttached := by cases rp <;> rfl
@[simp] theorem State.setStackPair_params (rp : StackPair) (v : Word) : (s.setStackPair rp v).params = s.params := by cases rp <;> rfl
@[simp] theorem State.setStackPair_host (rp : StackPair) (v : Word) : (s.setStackPair rp v).host = s.host := by cases rp <;> rfl
@[simp] theorem State.setStackPair_ioAnswers (rp : StackPair) (v : Word) : (s.setStackPair rp v).ioAnswers = s.ioAnswers := by cases rp <;> rfl
@[simp] theorem State.setStackPair_ioLog (rp : StackPair) (v : Word) : (s.setStackPair rp v).ioLog = s.ioLog := by cases rp <;> rfl
@[simp] theorem State.setStackPair_iteration (rp : StackPair) (v : Word) : (s.setStackPair rp v).iteration = s.iteration := by cases rp <;> rfl

/-! ### becomeReady -/

@[simp] theorem State.becomeReady_a : (s.becomeReady).a = s.a := rfl
@[simp] theorem State.becomeReady_b : (s.becomeReady).b = s.b := rfl
@[simp] theorem State.becomeReady_c : (s.becomeReady).c = s.c := rfl
@[simp] theorem State.becomeReady_d : (s.becomeReady).d = s.d := rfl
@[simp] theorem State.becomeReady_e : (s.becomeReady).e = s.e := rfl
@[simp] theorem State.becomeReady_h : (s.becomeReady).h = s.h := rfl
@[simp] theorem State.becomeReady_l : (s.becomeReady).l = s.l := rfl
@[simp] theorem State.becomeReady_f : (s.becomeReady).f = s.f := rfl
@[simp] theorem State.becomeReady_sp : (s.becomeReady).sp = s.sp := rfl
@[simp] theorem State.becomeReady_pc : (s.becomeReady).pc = s.pc := rfl
@[simp] theorem State.becomeReady_ie : (s.becomeReady).ie = s.ie := rfl
@[simp] theorem State.becomeReady_inhibit : (s.becomeReady).inhibit = s.inhibit := rfl
@[simp] theorem State.becomeReady_halted : (s.becomeReady).halted = s.halted := rfl
@[simp] theorem State.becomeReady_cycles : (s.becomeReady).cycles = s.cycles := rfl
@[simp] theorem State.becomeReady_instrs : (s.becomeReady).instrs = s.instrs := rfl
@[simp] theorem State.becomeReady_mem : (s.becomeReady).mem = s.mem := rfl
@[simp] theorem State.becomeReady_memAttached : (s.becomeReady).memAttached = s.memAttached := rfl
@[simp] theorem State.becomeReady_ioAttached : (s.becomeReady).ioAttached = s.ioAttached := rfl
@[simp] theorem State.becomeReady_params : (s.becomeReady).params = s.params := rfl
@[simp] theorem State.becomeReady_host : (s.becomeReady).host = s.host := rfl
@[simp] theorem State.becomeReady_ioAnswers : (s.becomeReady).ioAnswers = s.ioAnswers := rfl
@[simp] theorem State.becomeReady_ioLog : (s.becomeReady).ioLog = s.ioLog := rfl
@[simp] theorem State.becomeReady_iteration : (s.becomeReady).iteration = s.iteration := rfl

/-! ### startRun -/

@[simp] theorem State.startRun_a (start : Word) : (s.startRun start).a = s.a := rfl
@[simp] theorem State.startRun_b (start : Word) : (s.startRun start).b = s.b := rfl
@[simp] theorem State.startRun_c (start : Word) : (s.startRun start).c = s.c := rfl
@[simp] theorem State.startRun_d (start : Word) : (s.startRun start).d = s.d := rfl
@[simp] theorem State.startRun_e (start : Word) : (s.startRun start).e = s.e := rfl
@[simp] theorem State.startRun_h (start : Word) : (s.startRun start).h = s.h := rfl
@[simp] theorem State.startRun_l (start : Word) : (s.startRun start).l = s.l := rfl
@[simp] theorem State.startRun_f (start : Word) : (s.startRun start).f = s.f := rfl
@[simp] theorem State.startRun_sp (start : Word) : (s.startRun start).sp = s.sp := rfl
@[simp] theorem State.startRun_ie (start : Word) : (s.startRun start).ie = s.ie := rfl
@[simp] theorem State.startRun_cycles (start : Word) : (s.startRun start).cycles = s.cycles := rfl
@[simp] theorem State.startRun_instrs (start : Word) : (s.startRun start).instrs = s.instrs := rfl
@[simp] theorem State.startRun_mem (start : Word) : (s.startRun start).mem = s.mem := rfl
@[simp] theorem State.startRun_memAttached (start : Word) : (s.startRun start).memAttached = s.memAttached := rfl
@[simp] theorem State.startRun_ioAttached (start : Word) : (s.startRun start).ioAttached = s.ioAttached := rfl
@[simp] theorem State.startRun_params (start : Word) : (s.startRun start).params = s.params := rfl
@[simp] theorem State.startRun_host (start : Word) : (s.startRun start).host = s.host := rfl
@[simp] theorem State.startRun_ioAnswers (start : Word) : (s.startRun start).ioAnswers = s.ioAnswers := rfl
@[simp] theorem State.startRun_ioLog (start : Word) : (s.startRun start).ioLog = s.ioLog := rfl
@[simp] theorem State.startRun_iteration (start : Word) : (s.startRun start).iteration = s.iteration := rfl

/-! ### loadSnapshot -/

@[simp] theorem State.loadSnapshot_inhibit (snap : Snapshot) : (s.loadSnapshot snap).inhibit = s.inhibit := rfl
@[simp] theorem State.loadSnapshot_halted (snap : Snapshot) : (s.loadSnapshot snap).halted = s.halted := rfl
@[simp] theorem State.loadSnapshot_cycles (snap : Snapshot) : (s.loadSnapshot snap).cycles = s.cycles := rfl
@[simp] theorem State.loadSnapshot_instrs (snap : Snapshot) : (s.loadSnapshot snap).instrs = s.instrs := rfl
@[simp] theorem State.loadSnapshot_runState (snap : Snapshot) : (s.loadSnapshot snap).runState = s.runState := rfl
@[simp] theorem State.loadSnapshot_memAttached (snap : Snapshot) : (s.loadSnapshot snap).memAttached = s.memAttached := rfl
@[simp] theorem State.loadSnapshot_ioAttached (snap : Snapshot) : (s.loadSnapshot snap).ioAttached = s.ioAttached := rfl
@[simp] theorem State.loadSnapshot_params (snap : Snapshot) : (s.loadSnapshot snap).params = s.params := rfl
@[simp] theorem State.loadSnapshot_host (snap : Snapshot) : (s.loadSnapshot snap).host = s.host := rfl
@[simp] theorem State.loadSnapshot_ioAnswers (snap : Snapshot) : (s.loadSnapshot snap).ioAnswers = s.ioAnswers := rfl
@[simp] theorem State.loadSnapshot_ioLog (snap : Snapshot) : (s.loadSnapshot snap).ioLog = s.ioLog := rfl
@[simp] theorem State.loadSnapshot_iteration (snap : Snapshot) : (s.loadSnapshot snap).iteration = s.iteration := rfl

/-! ### haltedIdle -/

@[simp] theorem haltedIdle_a : (haltedIdle s).a = s.a := rfl
@[simp] theorem haltedIdle_b : (haltedIdle s).b = s.b := rfl
@[simp] theorem haltedIdle_c : (haltedIdle s).c = s.c := rfl
@[simp] theorem haltedIdle_d : (haltedIdle s).d = s.d := rfl
@[simp] theorem haltedIdle_e : (haltedIdle s).e = s.e := rfl
@[simp] theorem haltedIdle_h : (haltedIdle s).h = s.h := rfl
@[simp] theorem haltedIdle_l : (haltedIdle s).l = s.l := rfl
@[simp] theorem haltedIdle_f : (haltedIdle s).f = s.f := rfl
@[simp] theorem haltedIdle_sp : (haltedIdle s).sp = s.sp := rfl
@[simp] theorem haltedIdle_pc : (haltedIdle s).pc = s.pc := rfl
@[simp] theorem haltedIdle_ie : (haltedIdle s).ie = s.ie := rfl
@[simp] theorem haltedIdle_inhibit : (haltedIdle s).inhibit = s.inhibit := rfl
@[simp] theorem haltedIdle_halted : (haltedIdle s).halted = s.halted := rfl
@[simp] theorem haltedIdle_instrs : (haltedIdle s).instrs = s.instrs := rfl
@[simp] theorem haltedIdle_runState : (haltedIdle s).runState = s.runState := rfl
@[simp] theorem haltedIdle_mem : (haltedIdle s).mem = s.mem := rfl
@[simp] theorem haltedIdle_memAttached : (haltedIdle s).memAttached = s.memAttached := rfl
@[simp] theorem haltedIdle_ioAttached : (haltedIdle s).ioAttached = s.ioAttached := rfl
@[simp] theorem haltedIdle_params : (haltedIdle s).params = s.params := rfl
@[simp] theorem haltedIdle_host : (haltedIdle s).host = s.host := rfl
@[simp] theorem haltedIdle_ioAnswers : (haltedIdle s).ioAnswers = s.ioAnswers := rfl
@[simp] theorem haltedIdle_ioLog : (haltedIdle s).ioLog = s.ioLog := rfl
@[simp] theorem haltedIdle_iteration : (haltedIdle s).iteration = s.iteration := rfl

/-! ### afterFetch -/

@[simp] theorem afterFetch_a (i : Instr) : (afterFetch i s).a = s.a := rfl
@[simp] theorem afterFetch_b (i : Instr) : (afterFetch i s).b = s.b := rfl
@[simp] theorem afterFetch_c (i : Instr) : (afterFetch i s).c = s.c := rfl
@[simp] theorem afterFetch_d (i : Instr) : (afterFetch i s).d = s.d := rfl
@[simp] theorem afterFetch_e (i : Instr) : (afterFetch i s).e = s.e := rfl
@[simp] theorem afterFetch_h (i : Instr) : (afterFetch i s).h = s.h := rfl
@[simp] theorem afterFetch_l (i : Instr) : (afterFetch i s).l = s.l := rfl
@[simp] theorem afterFetch_f (i : Instr) : (afterFetch i s).f = s.f := rfl
@[simp] theorem afterFetch_sp (i : Instr) : (afterFetch i s).sp = s.sp := rfl
@[simp] theorem afterFetch_ie (i : Instr) : (afterFetch i s).ie = s.ie := rfl
@[simp] theorem afterFetch_halted (i : Instr) : (afterFetch i s).halted = s.halted := rfl
@[simp] theorem afterFetch_cycles (i : Instr) : (afterFetch i s).cycles = s.cycles := rfl
@[simp] theorem afterFetch_instrs (i : Instr) : (afterFetch i s).instrs = s.instrs := rfl
@[simp] theorem afterFetch_runState (i : Instr) : (afterFetch i s).runState = s.runState := rfl
@[simp] theorem afterFetch_mem (i : Instr) : (afterFetch i s).mem = s.mem := rfl
@[simp] theorem afterFetch_memAttached (i : Instr) : (afterFetch i s).memAttached = s.memAttached := rfl
@[simp] theorem afterFetch_ioAttached (i : Instr) : (afterFetch i s).ioAttached = s.ioAttached := rfl
@[simp] theorem afterFetch_params (i : Instr) : (afterFetch i s).params = s.params := rfl
@[simp] theorem afterFetch_host (i : Instr) : (afterFetch i s).host = s.host := rfl
@[simp] theorem afterFetch_ioAnswers (i : Instr) : (afterFetch i s).ioAnswers = s.ioAnswers := rfl
@[simp] theorem afterFetch_ioLog (i : Instr) : (afterFetch i s).ioLog = s.ioLog := rfl
@[simp] theorem afterFetch_iteration (i : Instr) : (afterFetch i s).iteration = s.iteration := rfl

/-! ### retire -/

@[simp] theorem retire_a (n : Nat) : (retire n s).a = s.a := rfl
@[simp] theorem retire_b (n : Nat) : (retire n s).b = s.b := rfl
@[simp] theorem retire_c (n : Nat) : (retire n s).c = s.c := rfl
@[simp] theorem retire_d (n : Nat) : (retire n s).d = s.d := rfl
@[simp] theorem retire_e (n : Nat) : (retire n s).e = s.e := rfl
@[simp] theorem retire_h (n : Nat) : (retire n s).h = s.h := rfl
@[simp] theorem retire_l (n : Nat) : (retire n s).l = s.l := rfl
@[simp] theorem retire_f (n : Nat) : (retire n s).f = s.f := rfl
@[simp] theorem retire_sp (n : Nat) : (retire n s).sp = s.sp := rfl
@[simp] theorem retire_pc (n : Nat) : (retire n s).pc = s.pc := rfl
@[simp] theorem retire_ie (n : Nat) : (retire n s).ie = s.ie := rfl
@[simp] theorem retire_inhibit (n : Nat) : (retire n s).inhibit = s.inhibit := rfl
@[simp] theorem retire_halted (n : Nat) : (retire n s).halted = s.halted := rfl
@[simp] theorem retire_runState (n : Nat) : (retire n s).runState = s.runState := rfl
@[simp] theorem retire_mem (n : Nat) : (retire n s).mem = s.mem := rfl
@[simp] theorem retire_memAttached (n : Nat) : (retire n s).memAttached = s.memAttached := rfl
@[simp] theorem retire_ioAttached (n : Nat) : (retire n s).ioAttached = s.ioAttached := rfl
@[simp] theorem retire_params (n : Nat) : (retire n s).params = s.params := rfl
@[simp] theorem retire_host (n : Nat) : (retire n s).host = s.host := rfl
@[simp] theorem retire_ioAnswers (n : Nat) : (retire n s).ioAnswers = s.ioAnswers := rfl
@[simp] theorem retire_ioLog (n : Nat) : (retire n s).ioLog = s.ioLog := rfl
@[simp] theorem retire_iteration (n : Nat) : (retire n s).iteration = s.iteration := rfl

/-! ### endIteration -/

@[simp] theorem endIteration_a (sig : Signal) : (endIteration sig s).a = s.a := rfl
@[simp] theorem endIteration_b (sig : Signal) : (endIteration sig s).b = s.b := rfl
@[simp] theorem endIteration_c (sig : Signal) : (endIteration sig s).c = s.c := rfl
@[simp] theorem endIteration_d (sig : Signal) : (endIteration sig s).d = s.d := rfl
@[simp] theorem endIteration_e (sig : Signal) : (endIteration sig s).e = s.e := rfl
@[simp] theorem endIteration_h (sig : Signal) : (endIteration sig s).h = s.h := rfl
@[simp] theorem endIteration_l (sig : Signal) : (endIteration sig s).l = s.l := rfl
@[simp] theorem endIteration_f (sig : Signal) : (endIteration sig s).f = s.f := rfl
@[simp] theorem endIteration_sp (sig : Signal) : (endIteration sig s).sp = s.sp := rfl
@[simp] theorem endIteration_pc (sig : Signal) : (endIteration sig s).pc = s.pc := rfl
@[simp] theorem endIteration_ie (sig : Signal) : (endIteration sig s).ie = s.ie := rfl
@[simp] theorem endIteration_inhibit (sig : Signal) : (endIteration sig s).inhibit = s.inhibit := rfl
@[simp] theorem endIteration_halted (sig : Signal) : (endIteration sig s).halted = s.halted := rfl
@[simp] theorem endIteration_cycles (sig : Signal) : (endIteration sig s).cycles = s.cycles := rfl
@[simp] theorem endIteration_instrs (sig : Signal) : (endIteration sig s).instrs = s.instrs := rfl
@[simp] theorem endIteration_mem (sig : Signal) : (endIteration sig s).mem = s.mem := rfl
@[simp] theorem endIteration_memAttached (sig : Signal) : (endIteration sig s).memAttached = s.memAttached := rfl
@[simp] theorem endIteration_ioAttached (sig : Signal) : (endIteration sig s).ioAttached = s.ioAttached := rfl
@[simp] theorem endIteration_params (sig : Signal) : (endIteration sig s).params = s.params := rfl
@[simp] theorem endIteration_host (sig : Signal) : (endIteration sig s).host = s.host := rfl
@[simp] theorem endIteration_ioAnswers (sig : Signal) : (endIteration sig s).ioAnswers = s.ioAnswers := rfl
@[simp] theorem endIteration_ioLog (sig : Signal) : (endIteration sig s).ioLog = s.ioLog := rfl

end Sys2Proof.Machine
end

