-- ==== Sys2Proof/Laws/Loop.lean ====
section
/-! SUPPORT. What one step can do, said once: each inversion lemma lists all the ways its function answers
a next state, so that no later proof unfolds it. -/

namespace Sys2Proof.Machine

variable {s t : State} {sig : Signal}

theorem accepted_eq_some {n : BitVec 3} :
    accepted sig s = some n ↔ sig = .rst n ∧ s.ie = true ∧ s.inhibit = false := by
  cases sig <;> simp [accepted]
  constructor <;> rintro ⟨h1, h2⟩
  · exact ⟨h2, h1⟩
  · exact ⟨h2, h1⟩

/-- A signal is not accepted exactly when it is no RST, or IE = 0, or INHIBIT = 1 (R334). -/
theorem accepted_eq_none :
    accepted sig s = none ↔ ∀ n, sig = .rst n → s.ie = true → s.inhibit = true := by
  cases sig <;> simp [accepted]

theorem executeOne_next (h : executeOne s = .next t) :
    ∃ i rest u, decode (fetchBytes s) = .ok (i, rest) ∧
      ¬(s.params.undocMode = .refuse ∧ isUndefined i = true) ∧
      exec i (afterFetch i s) = .next u ∧ t = retire (cycles i s) u := by
  unfold executeOne at h
  split at h
  · exact nomatch h
  · rename_i i rest hd
    split at h
    · exact nomatch h
    · rename_i hu
      split at h
      · rename_i u hx
        cases h
        exact ⟨i, rest, u, hd, hu, hx, rfl⟩
      · exact nomatch h
      · exact nomatch h

theorem iterationBody_next (h : iterationBody sig s = .next t) :
    (∃ n, accepted sig s = some n ∧ t = s.interruptEntry n) ∨
    (accepted sig s = none ∧ s.halted = true ∧ t = haltedIdle s) ∨
    (accepted sig s = none ∧ s.halted = false ∧ executeOne s = .next t) := by
  unfold iterationBody at h
  split at h
  · rename_i n hn
    cases h
    exact .inl ⟨n, hn, rfl⟩
  · rename_i hn
    split at h
    · rename_i hh
      cases h
      exact .inr (.inl ⟨hn, hh, rfl⟩)
    · rename_i hh
      exact .inr (.inr ⟨hn, by simpa using hh, h⟩)

theorem iteration_next (h : iteration sig s = .next t) :
    (sig = .quit ∧ s.params.quitOrder = .beforeStep ∧ t = { s with iteration := s.iteration + 1, runState := .stopped }) ∨
    (¬(sig = .quit ∧ s.params.quitOrder = .beforeStep) ∧
      ∃ u, iterationBody sig s = .next u ∧ t = endIteration sig u) := by
  unfold iteration at h
  split at h
  · rename_i hq
    cases h
    exact .inl ⟨hq.1, hq.2, rfl⟩
  · rename_i hq
    split at h
    · rename_i u hu
      cases h
      exact .inr ⟨hq, u, hu, rfl⟩
    · exact nomatch h
    · exact nomatch h

/-- A step of a running block is an iteration or a host call; a step of any other block is a host call
or nothing. -/
theorem step_next (h : step s = .next t) :
    (s.host = [] ∧ s.runState = .running ∧ iteration s.pollAnswer s = .next t) ∨
    (s.host = [] ∧ s.runState ≠ .running ∧ t = s) ∨
    (∃ m rest, s.host = m :: rest ∧ hostMove m { s with host := rest } = .next t) := by
  unfold step at h
  split at h
  · rename_i hh
    split at h
    · rename_i hr
      exact .inl ⟨hh, hr, h⟩
    · rename_i hr
      cases h
      exact .inr (.inl ⟨hh, hr, rfl⟩)
  · rename_i m rest hh
    exact .inr (.inr ⟨m, rest, hh, h⟩)

end Sys2Proof.Machine
end

