-- ==== Sys2Proof/Laws/Flags.lean ====
section
/-! SUPPORT. The flag byte: five flags in, the same five flags out, and the fixed bits pinned. -/

namespace Sys2Proof.Machine

@[simp] theorem Flags.unpack_pack (fl : Flags) : Flags.unpack fl.pack = fl := by
  obtain ⟨s, z, ac, p, cy⟩ := fl
  cases s <;> cases z <;> cases ac <;> cases p <;> cases cy <;> rfl

/-- Unpacking a byte and packing it again is the write rule of R28. -/
theorem Flags.pack_unpack (f : Byte) : (Flags.unpack f).pack = pinFlagByte f := by
  revert f; decide +kernel

/-- A packed flag byte has its fixed bits pinned (R28). -/
theorem Flags.pinned_pack (fl : Flags) :
    fl.pack.getLsbD 5 = false ∧ fl.pack.getLsbD 3 = false ∧ fl.pack.getLsbD 1 = true := by
  obtain ⟨s, z, ac, p, cy⟩ := fl
  cases s <;> cases z <;> cases ac <;> cases p <;> cases cy <;> decide

/-- A pinned byte has its fixed bits pinned (R28). -/
theorem pinned_pinFlagByte (v : Byte) :
    (pinFlagByte v).getLsbD 5 = false ∧ (pinFlagByte v).getLsbD 3 = false ∧ (pinFlagByte v).getLsbD 1 = true := by
  revert v; decide +kernel

@[simp] theorem State.flags_putFlags (s : State) (fl : Flags) : (s.putFlags fl).flags = fl :=
  Flags.unpack_pack fl

@[simp] theorem State.flags_putCy (s : State) (cy : Bool) :
    (s.putCy cy).flags = { s.flags with cy := cy } := Flags.unpack_pack _

/-- The result of `Add8` is the exact sum, less 256 when it carries (R171). -/
theorem add8_res_toNat (a b : Byte) (c : Bool) :
    (add8 a b c).res.toNat = (a.toNat + b.toNat + c.toNat) % 256 := by
  simp [add8]

/-- The result of `Sub8` is the difference modulo 256 (R172). -/
theorem sub8_res_toNat (a b : Byte) (bw : Bool) :
    (sub8 a b bw).res.toNat = (a.toNat + 256 - b.toNat - bw.toNat) % 256 := by
  have ha := a.isLt
  have hb := b.isLt
  cases bw <;> simp [sub8, BitVec.toNat_not] <;> omega

end Sys2Proof.Machine
end

