-- ==== Sys2Proof/Laws/Memory.lean ====
section
/-! SUPPORT. Plain RAM: a read after a write, and that every memory operation keeps the canonical form. -/

namespace Sys2Proof.Machine

theorem Memory.wfFrom_cons {lo k : Nat} {v : Byte} {m : Memory} :
    Memory.wfFrom lo ((k, v) :: m) = true ↔
      lo ≤ k ∧ k < 65536 ∧ v ≠ Memory.unlisted ∧ Memory.wfFrom (k + 1) m = true := by
  simp [Memory.wfFrom, and_assoc]

theorem Memory.wfFrom_mono {lo lo' : Nat} {m : Memory} (h : Memory.wfFrom lo' m = true) (hle : lo ≤ lo') :
    Memory.wfFrom lo m = true := by
  cases m with
  | nil => rfl
  | cons c m =>
    rw [Memory.wfFrom_cons] at h ⊢
    exact ⟨by omega, h.2⟩

theorem Memory.lookup_below {lo k : Nat} {m : Memory} (h : Memory.wfFrom lo m = true) (hk : k < lo) :
    Memory.lookup k m = Memory.unlisted := by
  induction m generalizing lo with
  | nil => rfl
  | cons c m ih =>
    rw [Memory.wfFrom_cons] at h
    rw [Memory.lookup, if_neg (by omega)]
    exact ih h.2.2.2 (by omega)

theorem Memory.lookup_cons_other {k j : Nat} (v : Byte) (m : Memory) (h : j ≠ k) :
    Memory.lookup j (Memory.cons k v m) = Memory.lookup j m := by
  unfold Memory.cons
  split
  · rfl
  · rw [Memory.lookup, if_neg h]

theorem Memory.lookup_cons_same {k : Nat} (v : Byte) {m : Memory}
    (h : Memory.lookup k m = Memory.unlisted) : Memory.lookup k (Memory.cons k v m) = v := by
  unfold Memory.cons
  split
  · rw [h]; exact Eq.symm ‹_›
  · rw [Memory.lookup, if_pos rfl]

theorem Memory.wfFrom_cons_of {lo k : Nat} (v : Byte) {m : Memory}
    (h : Memory.wfFrom (k + 1) m = true) (hlo : lo ≤ k) (hk : k < 65536) :
    Memory.wfFrom lo (Memory.cons k v m) = true := by
  unfold Memory.cons
  split
  · exact Memory.wfFrom_mono h (by omega)
  · exact Memory.wfFrom_cons.2 ⟨hlo, hk, ‹_›, h⟩

theorem Memory.lookup_insert_other {k j : Nat} (v : Byte) (m : Memory) (h : j ≠ k) :
    Memory.lookup j (Memory.insert k v m) = Memory.lookup j m := by
  induction m with
  | nil => exact Memory.lookup_cons_other v [] h
  | cons c m ih =>
    obtain ⟨k', v'⟩ := c
    rw [Memory.insert]
    split
    · exact Memory.lookup_cons_other v _ h
    · split
      · subst k'
        rw [Memory.lookup_cons_other v _ h, Memory.lookup, if_neg h]
      · rw [Memory.lookup, Memory.lookup, ih]

theorem Memory.lookup_insert_same {lo k : Nat} (v : Byte) {m : Memory} (h : Memory.wfFrom lo m = true) :
    Memory.lookup k (Memory.insert k v m) = v := by
  induction m generalizing lo with
  | nil => exact Memory.lookup_cons_same v rfl
  | cons c m ih =>
    obtain ⟨k', v'⟩ := c
    have h' := Memory.wfFrom_cons.1 h
    rw [Memory.insert]
    split
    · refine Memory.lookup_cons_same v ?_
      rw [Memory.lookup, if_neg (by omega)]
      exact Memory.lookup_below h'.2.2.2 (by omega)
    · split
      · exact Memory.lookup_cons_same v (Memory.lookup_below h'.2.2.2 (by omega))
      · rw [Memory.lookup, if_neg (by assumption)]
        exact ih h'.2.2.2

theorem Memory.wfFrom_insert {lo k : Nat} (v : Byte) {m : Memory} (h : Memory.wfFrom lo m = true)
    (hlo : lo ≤ k) (hk : k < 65536) : Memory.wfFrom lo (Memory.insert k v m) = true := by
  induction m generalizing lo with
  | nil => exact Memory.wfFrom_cons_of v rfl hlo hk
  | cons c m ih =>
    obtain ⟨k', v'⟩ := c
    have h' := Memory.wfFrom_cons.1 h
    rw [Memory.insert]
    split
    · exact Memory.wfFrom_cons_of v (Memory.wfFrom_cons.2 ⟨by omega, h'.2⟩) hlo hk
    · split
      · subst k'
        exact Memory.wfFrom_cons_of v h'.2.2.2 hlo hk
      · exact Memory.wfFrom_cons.2 ⟨h'.1, h'.2.1, h'.2.2.1, ih h'.2.2.2 (by omega)⟩

/-- A read of the address just written gives the byte written (R61). -/
theorem Memory.read_write_same {m : Memory} (h : m.wf = true) (a : Word) (v : Byte) :
    (m.write a v).read a = v := Memory.lookup_insert_same v h

/-- A write leaves every other address alone (R61). -/
theorem Memory.read_write_other (m : Memory) {a x : Word} (v : Byte) (h : x ≠ a) :
    (m.write a v).read x = m.read x :=
  Memory.lookup_insert_other v m (fun hx => h (BitVec.eq_of_toNat_eq hx))

/-- A write keeps the canonical form. -/
theorem Memory.wf_write {m : Memory} (h : m.wf = true) (a : Word) (v : Byte) :
    (m.write a v).wf = true := Memory.wfFrom_insert v h (Nat.zero_le _) a.isLt

/-- A loaded memory has the canonical form, whatever list it was loaded from. -/
theorem Memory.wf_ofCells (cells : List Host.Cell) : (Memory.ofCells cells).wf = true := by
  have h : ∀ (cs : List Host.Cell) (m : Memory), m.wf = true →
      (cs.foldl (fun m cell => Memory.write m (BitVec.ofNat 16 cell.1) cell.2) m).wf = true := by
    intro cs
    induction cs with
    | nil => exact fun _ h => h
    | cons c cs ih => exact fun m hm => ih _ (Memory.wf_write hm _ _)
  exact h cells [] rfl

/-- The memory of a construction has the canonical form. -/
theorem Memory.wf_reset : State.reset.mem.wf = true := rfl

end Sys2Proof.Machine
end

