-- ==== Sys2Proof/Laws/Word.lean ====
section
/-! SUPPORT. Bytes and words: splitting a word and joining bytes are inverse. -/

namespace Sys2Proof

@[simp] theorem joinBytes_hi_lo (w : Word) : joinBytes (hiByte w) (loByte w) = w := by
  apply BitVec.eq_of_toNat_eq
  have h := w.isLt
  simp only [joinBytes, hiByte, loByte, BitVec.toNat_append, BitVec.extractLsb'_toNat, Nat.shiftRight_eq_div_pow]
  rw [← Nat.shiftLeft_add_eq_or_of_lt (Nat.mod_lt _ (by decide)), Nat.shiftLeft_eq]
  omega

theorem joinBytes_toNat (hi lo : Byte) : (joinBytes hi lo).toNat = hi.toNat * 256 + lo.toNat := by
  simp only [joinBytes, BitVec.toNat_append]
  rw [← Nat.shiftLeft_add_eq_or_of_lt lo.isLt, Nat.shiftLeft_eq]

@[simp] theorem hiByte_joinBytes (hi lo : Byte) : hiByte (joinBytes hi lo) = hi := by
  apply BitVec.eq_of_toNat_eq
  have h := lo.isLt
  have h' := hi.isLt
  simp only [hiByte, BitVec.extractLsb'_toNat, joinBytes_toNat, Nat.shiftRight_eq_div_pow]
  omega

@[simp] theorem loByte_joinBytes (hi lo : Byte) : loByte (joinBytes hi lo) = lo := by
  apply BitVec.eq_of_toNat_eq
  have h := lo.isLt
  simp only [loByte, BitVec.extractLsb'_toNat, joinBytes_toNat, Nat.shiftRight_eq_div_pow]
  omega

/-- The two addresses of a 16-bit access differ. -/
theorem word_succ_ne (a : Word) : a + 1 ≠ a := by bv_omega

/-- The two addresses a push writes differ. -/
theorem word_pred_ne (a : Word) : a - 1 ≠ a - 2 := by bv_omega

end Sys2Proof
end

