-- ==== Sys2Proof/Laws/Ops.lean ====
section
/-! SUPPORT. The shared operations: what each one reads and writes. -/

namespace Sys2Proof.Machine

variable (s : State)

/-! ### Registers -/

@[simp] theorem State.reg_setReg_same (r : Reg) (v : Byte) : (s.setReg r v).reg r = v := by
  cases r <;> rfl

theorem State.reg_setReg_other {r q : Reg} (v : Byte) (h : q ≠ r) : (s.setReg r v).reg q = s.reg q := by
  cases r <;> cases q <;> first | rfl | exact absurd rfl h

@[simp] theorem State.pair_setPair_same (rp : Pair) (v : Word) : (s.setPair rp v).pair rp = v := by
  cases rp
  · exact joinBytes_hi_lo v
  · exact joinBytes_hi_lo v
  · exact joinBytes_hi_lo v
  · rfl

@[simp] theorem State.hl_setReg_a (v : Byte) : (s.setReg .a v).hl = s.hl := rfl

/-! ### Memory -/

/-- Plain RAM reads its contents (R60). -/
theorem State.read_ram (h : s.params.memPort = .ram) (acc : Access) (a : Word) :
    s.read acc a = s.mem.read a := by
  rw [State.read, h]

@[simp] theorem State.write_mem (a : Word) (v : Byte) : (s.write a v).mem = s.mem.write a v := rfl

@[simp] theorem State.write16_mem (a v : Word) :
    (s.write16 a v).mem = (s.mem.write a (loByte v)).write (a + 1) (hiByte v) := rfl

/-! ### The stack -/

theorem State.push16_sp (v : Word) : (s.push16 v).sp = s.sp - 2 := by
  show s.sp - 1 - 1 = s.sp - 2
  bv_omega

theorem State.push16_mem (v : Word) :
    (s.push16 v).mem = (s.mem.write (s.sp - 1) (hiByte v)).write (s.sp - 2) (loByte v) := by
  have h : s.sp - 1 - 1 = s.sp - 2 := by bv_omega
  show (s.mem.write (s.sp - 1) (hiByte v)).write (s.sp - 1 - 1) (loByte v) = _
  rw [h]

theorem State.push16_high {v : Word} (h : s.mem.wf = true) :
    (s.push16 v).mem.read (s.sp - 1) = hiByte v := by
  rw [State.push16_mem, Memory.read_write_other _ _ (word_pred_ne s.sp), Memory.read_write_same h]

theorem State.push16_low {v : Word} (h : s.mem.wf = true) :
    (s.push16 v).mem.read (s.sp - 2) = loByte v := by
  rw [State.push16_mem, Memory.read_write_same (Memory.wf_write h _ _)]

theorem State.push16_other {v x : Word} (h1 : x ≠ s.sp - 1) (h2 : x ≠ s.sp - 2) :
    (s.push16 v).mem.read x = s.mem.read x := by
  rw [State.push16_mem, Memory.read_write_other _ _ h2, Memory.read_write_other _ _ h1]

theorem State.wf_push16 {v : Word} (h : s.mem.wf = true) : (s.push16 v).mem.wf = true := by
  rw [State.push16_mem]
  exact Memory.wf_write (Memory.wf_write h _ _) _ _

theorem State.wf_setLoc {x : Loc} {v : Byte} (h : s.mem.wf = true) : (s.setLoc x v).mem.wf = true := by
  cases x with
  | reg r => cases r <;> exact h
  | m => exact Memory.wf_write h _ _

@[simp] theorem State.pop16_sp : (s.pop16).2.sp = s.sp + 2 := rfl

@[simp] theorem State.popPc_sp : s.popPc.sp = s.sp + 2 := rfl

@[simp] theorem State.popPc_pc : s.popPc.pc = s.read16 s.sp := rfl

/-! ### Taking an interrupt (R341) -/

@[simp] theorem State.interruptEntry_pc (n : BitVec 3) : (s.interruptEntry n).pc = restartVector n := rfl

@[simp] theorem State.interruptEntry_ie (n : BitVec 3) : (s.interruptEntry n).ie = false := rfl

@[simp] theorem State.interruptEntry_halted (n : BitVec 3) : (s.interruptEntry n).halted = false := rfl

@[simp] theorem State.interruptEntry_cycles (n : BitVec 3) :
    (s.interruptEntry n).cycles = s.cycles + 11 := rfl

theorem State.interruptEntry_sp (n : BitVec 3) : (s.interruptEntry n).sp = s.sp - 2 :=
  s.push16_sp s.pc

theorem State.interruptEntry_mem (n : BitVec 3) : (s.interruptEntry n).mem = (s.push16 s.pc).mem := rfl

end Sys2Proof.Machine
end

