-- ==== Sys2Proof/Laws/Claims.lean ====
section
/-! SUPPORT. The shared operations in the terms the claims use: which bytes a store leaves alone, what a push
leaves, what a poll's step is, and one equation for the three forms of an ALU operation. -/

namespace Sys2Proof.Machine

variable {s s' : State} {sig : Signal}

/-! ### Stores -/

theorem SameBytesBut.refl (l : List Word) (m : Memory) : SameBytesBut l m m := fun _ _ => rfl

theorem State.write_frame (s : State) (a : Word) (v : Byte) :
    SameBytesBut [a] s.mem (s.write a v).mem :=
  fun _ hx => Memory.read_write_other _ _ (by simpa using hx)

theorem State.write16_frame (s : State) (a v : Word) :
    SameBytesBut [a, a + 1] s.mem (s.write16 a v).mem := by
  intro x hx
  simp only [List.mem_cons, List.not_mem_nil, or_false, not_or] at hx
  rw [State.write16_mem, Memory.read_write_other _ _ hx.2, Memory.read_write_other _ _ hx.1]

theorem State.write16_low (h : s.MemCanonical) (a v : Word) : (s.write16 a v).mem.read a = loByte v := by
  rw [State.write16_mem, Memory.read_write_other _ _ (word_succ_ne a).symm, Memory.read_write_same h]

theorem State.write16_high (h : s.MemCanonical) (a v : Word) :
    (s.write16 a v).mem.read (a + 1) = hiByte v := by
  rw [State.write16_mem, Memory.read_write_same (Memory.wf_write h _ _)]

/-! ### Pushes -/

theorem State.push16_frame (s : State) (v : Word) :
    SameBytesBut [s.sp - 1, s.sp - 2] s.mem (s.push16 v).mem := by
  intro x hx
  simp only [List.mem_cons, List.not_mem_nil, or_false, not_or] at hx
  exact State.push16_other s hx.1 hx.2

theorem State.push16_pushed (h : s.MemCanonical) (v : Word) : Pushed v s (s.push16 v) :=
  ⟨s.push16_sp v, s.push16_high h, s.push16_low h, s.push16_frame v⟩

/-- A push changes SP and memory only. -/
theorem State.push16_eq (s : State) (v : Word) :
    s.push16 v = { s with sp := s.sp - 2, mem := (s.push16 v).mem } := by
  rw [← s.push16_sp v]
  rfl

/-! ### Polls -/

/-- The step of a block that answers a poll is the iteration of that answer, and the block is running. -/
theorem State.Polls.step (h : s.Polls sig s') :
    Machine.step s = Machine.iteration sig s' ∧ s'.runState = .running := by
  obtain ⟨hr, ⟨h1, rfl, rfl⟩ | ⟨rest, h1, rfl⟩⟩ := h
  · exact ⟨by rw [Machine.step, h1]; simp [hr], hr⟩
  · exact ⟨by rw [Machine.step, h1]; simp [hostMove, hr], hr⟩

/-! ### The ALU -/

/-- The three forms of an ALU operation do what the immediate form does with their operand. -/
theorem AluForm.exec {op : AluOp} {i : Instr} {v : Byte} (h : AluForm op s i v) :
    Machine.exec i s = Machine.exec (.ofAluImm op v) s := by
  rcases h with ⟨l, rfl, rfl⟩ | rfl
  · rw [exec_ofAlu, exec_ofAluImm]
  · rfl

/-- `Sub8` without the complement: the difference, the borrow, and AC as the low digits say (R172). -/
theorem sub8_eq (a b : Byte) (bw : Bool) : sub8 a b bw =
    { res := a - b - BitVec.ofNat 8 bw.toNat
      cy := decide (a.toNat < b.toNat + bw.toNat)
      ac := decide (a.toNat % 16 ≥ b.toNat % 16 + bw.toNat) } := by
  have ha := a.isLt
  have hb := b.isLt
  simp only [sub8, AluResult.mk.injEq]
  refine ⟨?_, ?_, ?_⟩
  · apply BitVec.eq_of_toNat_eq
    cases bw <;> simp [BitVec.toNat_not] <;> omega
  · rw [← decide_not]
    apply decide_eq_decide.2
    cases bw <;> simp [BitVec.toNat_not] <;> omega
  · apply decide_eq_decide.2
    cases bw <;> simp [BitVec.toNat_not] <;> omega

end Sys2Proof.Machine
end

