-- ==== Sys2Proof/Laws/Decode.lean ====
section
/-! SUPPORT. Decoding by length: what the list decoder answers once the length of the opcode byte and its
instruction are known. Simplify `encode` and `opcode` first, so that the byte is a literal. -/

namespace Sys2Proof

variable {op : Byte} {rest : List Byte}

/-- A 1-byte instruction. -/
theorem decode_I1 {i : Instr} (hl : opcodeLength op = 1) (hd : ∀ b2 b3, decodeOpcode op b2 b3 = i) :
    decode (op :: rest) = .ok (i, rest) := by
  simp only [decode, hl, hd]

/-- A 2-byte instruction. -/
theorem decode_I2 {f : Byte → Instr} (hl : opcodeLength op = 2)
    (hd : ∀ b2 b3, decodeOpcode op b2 b3 = f b2) (v : Byte) :
    decode (op :: v :: rest) = .ok (f v, rest) := by
  simp only [decode, hl, hd]

/-- A 3-byte instruction, its operand low byte first. -/
theorem decode_I3 {f : Word → Instr} (hl : opcodeLength op = 3)
    (hd : ∀ b2 b3, decodeOpcode op b2 b3 = f (joinBytes b3 b2)) (w : Word) :
    decode (op :: loByte w :: hiByte w :: rest) = .ok (f w, rest) := by
  simp only [decode, hl, hd, joinBytes_hi_lo]

/-- The opcode bytes of `*CALL` are 3 bytes long. -/
theorem opcodeLength_undefCall :
    ∀ sel : BitVec 2, opcodeLength (0b11#2 ++ sel ++ 0b1101#4 : BitVec 8) = 3 := by decide +kernel

/-- The opcode bytes of `*NOP` are 1 byte long. -/
theorem opcodeLength_undefNop :
    ∀ ddd : BitVec 3, opcodeLength (0b00#2 ++ ddd ++ 0b000#3 : BitVec 8) = 1 := by decide +kernel

/-- Every opcode byte has a length the decoder knows (R92). -/
theorem opcodeLength_cases (op : Byte) :
    opcodeLength op = 1 ∨ opcodeLength op = 2 ∨ opcodeLength op = 3 := by
  unfold opcodeLength
  split
  · exact .inr (.inl rfl)
  · split
    · exact .inr (.inr rfl)
    · exact .inl rfl

end Sys2Proof
end

