-- ==== Sys2Proof/Laws/Effects.lean ====
section
/-! SUPPORT. What each shared operation does to the flag byte, one lemma an operation, so that a claim over all
instructions does not unfold it. -/

namespace Sys2Proof.Machine

variable (s : State)

/-! ### The flag byte (10_state.md R28, R34): kept, or written from five flags or from a popped byte -/

@[simp] theorem State.f_setReg (r : Reg) (v : Byte) : (s.setReg r v).f = s.f := by
  cases r <;> rfl

@[simp] theorem State.f_setLoc (x : Loc) (v : Byte) : (s.setLoc x v).f = s.f := by
  cases x with
  | reg r => exact s.f_setReg r v
  | m => rfl

@[simp] theorem State.f_setPair (rp : Pair) (v : Word) : (s.setPair rp v).f = s.f := by
  cases rp <;> rfl

@[simp] theorem opMov_f (d src : Loc) : (opMov d src s).f = s.f := s.f_setLoc _ _

@[simp] theorem opMvi_f (d : Loc) (v : Byte) : (opMvi d v s).f = s.f := s.f_setLoc _ _

@[simp] theorem opLxi_f (rp : Pair) (w : Word) : (opLxi rp w s).f = s.f := s.f_setPair _ _

@[simp] theorem opLoadA_f (a : Word) : (opLoadA a s).f = s.f := rfl

@[simp] theorem opStoreA_f (a : Word) : (opStoreA a s).f = s.f := rfl

@[simp] theorem opLhld_f (a : Word) : (opLhld a s).f = s.f := rfl

@[simp] theorem opShld_f (a : Word) : (opShld a s).f = s.f := rfl

@[simp] theorem opXchg_f : (opXchg s).f = s.f := rfl

@[simp] theorem State.f_putCy (c : Bool) : (s.putCy c).f = Flags.pack { s.flags with cy := c } := rfl

@[simp] theorem opAdd_f (v : Byte) (c : Bool) :
    (opAdd v c s).f = ((add8 s.a v c).flags s.flags).pack := rfl

@[simp] theorem opSub_f (v : Byte) (c : Bool) :
    (opSub v c s).f = ((sub8 s.a v c).flags s.flags).pack := rfl

@[simp] theorem opInr_f (d : Loc) :
    (opInr d s).f = ((add8 (s.loc d) 1 false).flagsKeepCy s.flags).pack := rfl

@[simp] theorem opDcr_f (d : Loc) :
    (opDcr d s).f = ((sub8 (s.loc d) 1 false).flagsKeepCy s.flags).pack := rfl

@[simp] theorem opInx_f (rp : Pair) : (opInx rp s).f = s.f := s.f_setPair _ _

@[simp] theorem opDcx_f (rp : Pair) : (opDcx rp s).f = s.f := s.f_setPair _ _

@[simp] theorem opDad_f (rp : Pair) : (opDad rp s).f =
    Flags.pack { s.flags with cy := decide (s.hl.toNat + (s.pair rp).toNat > 65535) } := rfl

@[simp] theorem opDaa_f : (opDaa s).f =
    Flags.pack { (add8 s.a (daaCorrection s.a s.flags) false).flags s.flags with
      cy := daaHigh s.a s.flags || s.flags.cy } := rfl

@[simp] theorem opAna_f (v : Byte) : (opAna v s).f =
    Flags.pack { s.flags.setSZP (s.a &&& v) with ac := (s.a ||| v).getLsbD 3, cy := false } := rfl

@[simp] theorem opXra_f (v : Byte) : (opXra v s).f =
    Flags.pack { s.flags.setSZP (s.a ^^^ v) with ac := false, cy := false } := rfl

@[simp] theorem opOra_f (v : Byte) : (opOra v s).f =
    Flags.pack { s.flags.setSZP (s.a ||| v) with ac := false, cy := false } := rfl

@[simp] theorem opCmp_f (v : Byte) : (opCmp v s).f = ((sub8 s.a v false).flags s.flags).pack := rfl

@[simp] theorem opRlc_f : (opRlc s).f = Flags.pack { s.flags with cy := s.a.getLsbD 7 } := rfl

@[simp] theorem opRrc_f : (opRrc s).f = Flags.pack { s.flags with cy := s.a.getLsbD 0 } := rfl

@[simp] theorem opRal_f : (opRal s).f = Flags.pack { s.flags with cy := s.a.getLsbD 7 } := rfl

@[simp] theorem opRar_f : (opRar s).f = Flags.pack { s.flags with cy := s.a.getLsbD 0 } := rfl

@[simp] theorem opCma_f : (opCma s).f = s.f := rfl

@[simp] theorem opJump_f (a : Word) : (opJump a s).f = s.f := rfl

@[simp] theorem opCall_f (a : Word) : (opCall a s).f = s.f := rfl

@[simp] theorem opRet_f : (opRet s).f = s.f := rfl

@[simp] theorem opRst_f (n : BitVec 3) : (opRst n s).f = s.f := rfl

@[simp] theorem opJumpIf_f (cond : Cond) (a : Word) : (opJumpIf cond a s).f = s.f := by
  unfold opJumpIf; split <;> rfl

@[simp] theorem opCallIf_f (cond : Cond) (a : Word) : (opCallIf cond a s).f = s.f := by
  unfold opCallIf; split <;> rfl

@[simp] theorem opRetIf_f (cond : Cond) : (opRetIf cond s).f = s.f := by
  unfold opRetIf; split <;> rfl

@[simp] theorem opPush_f (rp : StackPair) : (opPush rp s).f = s.f := rfl

/-- POP of a register pair keeps F (44_stack_io_control.md R292). -/
theorem opPop_f {rp : StackPair} (h : rp ≠ .psw) : (opPop rp s).f = s.f := by
  cases rp
  · rfl
  · rfl
  · rfl
  · exact absurd rfl h

/-- POP PSW pins what it popped (44_stack_io_control.md R293). -/
@[simp] theorem opPop_psw_f : (opPop .psw s).f = pinFlagByte (loByte (s.pop16).1) := rfl

@[simp] theorem opXthl_f : (opXthl s).f = s.f := rfl

@[simp] theorem opIn_f (port : Byte) : (opIn port s).f = s.f := rfl

/-! ### The flags: each lemma above, read through `Flags.unpack` -/

/-- Flags follow the flag byte. -/
theorem State.flags_of_f {t : State} (h : t.f = s.f) : t.flags = s.flags := congrArg Flags.unpack h

/-- The flags of a state whose flag byte was just packed. -/
theorem State.flags_of_pack {fl : Flags} (h : s.f = fl.pack) : s.flags = fl := by
  rw [State.flags, h, Flags.unpack_pack]

/-! ### Every instruction -/

/-- The one thing the invariant needs of F: an instruction keeps the flag byte or packs it anew. -/
theorem exec_f {i : Instr} {s t : State} (h : exec i s = .next t) :
    t.f = s.f ∨ ∃ fl : Flags, t.f = fl.pack := by
  cases i <;> injection h with h <;> subst h
  all_goals first
    | with_reducible exact .inl rfl
    | (simp only [State.f_putCy, opAdd_f, opSub_f, opInr_f, opDcr_f, opDad_f, opDaa_f, opAna_f, opXra_f,
        opOra_f, opCmp_f, opRlc_f, opRrc_f, opRal_f, opRar_f, opJumpIf_f, opCallIf_f, opRetIf_f, opPop_psw_f,
        eq_self, true_or] <;>
        with_reducible first
          | exact .inr ⟨_, rfl⟩
          | exact .inr ⟨_, (Flags.pack_unpack _).symm⟩)

end Sys2Proof.Machine
end

