-- ==== Sys2Proof/Laws/PerInstr.lean ====
section
/-! SUPPORT. Per-instruction law: an instruction's bytes are as many as its opcode byte says
(30_encoding.md R90, R92). -/

namespace Sys2Proof.Laws.EncodingLength

/-- The encoding of `i` has the length that R92 gives its opcode byte. -/
def Statement (i : Instr) : Prop := (encode i).length = opcodeLength (opcode i)

theorem lxiB (imm16 : Word) : Statement (.lxiB imm16) := by rfl
theorem mviB (imm8 : Byte) : Statement (.mviB imm8) := by rfl
theorem undefNop (ddd : BitVec 3) : Statement (.undefNop ddd) := by
  have h : ∀ x : BitVec 3, opcodeLength (opcode (.undefNop x)) = 1 := by decide +kernel
  exact (h ddd).symm
theorem mviC (imm8 : Byte) : Statement (.mviC imm8) := by rfl
theorem lxiD (imm16 : Word) : Statement (.lxiD imm16) := by rfl
theorem mviD (imm8 : Byte) : Statement (.mviD imm8) := by rfl
theorem mviE (imm8 : Byte) : Statement (.mviE imm8) := by rfl
theorem lxiH (imm16 : Word) : Statement (.lxiH imm16) := by rfl
theorem shld (addr : Word) : Statement (.shld addr) := by rfl
theorem mviH (imm8 : Byte) : Statement (.mviH imm8) := by rfl
theorem lhld (addr : Word) : Statement (.lhld addr) := by rfl
theorem mviL (imm8 : Byte) : Statement (.mviL imm8) := by rfl
theorem lxiSp (imm16 : Word) : Statement (.lxiSp imm16) := by rfl
theorem sta (addr : Word) : Statement (.sta addr) := by rfl
theorem mviM (imm8 : Byte) : Statement (.mviM imm8) := by rfl
theorem lda (addr : Word) : Statement (.lda addr) := by rfl
theorem mviA (imm8 : Byte) : Statement (.mviA imm8) := by rfl
theorem jnz (addr : Word) : Statement (.jnz addr) := by rfl
theorem jmp (addr : Word) : Statement (.jmp addr) := by rfl
theorem cnz (addr : Word) : Statement (.cnz addr) := by rfl
theorem adi (imm8 : Byte) : Statement (.adi imm8) := by rfl
theorem jz (addr : Word) : Statement (.jz addr) := by rfl
theorem undefJmp (addr : Word) : Statement (.undefJmp addr) := by rfl
theorem cz (addr : Word) : Statement (.cz addr) := by rfl
theorem call (addr : Word) : Statement (.call addr) := by rfl
theorem aci (imm8 : Byte) : Statement (.aci imm8) := by rfl
theorem jnc (addr : Word) : Statement (.jnc addr) := by rfl
theorem out (port : Byte) : Statement (.out port) := by rfl
theorem cnc (addr : Word) : Statement (.cnc addr) := by rfl
theorem sui (imm8 : Byte) : Statement (.sui imm8) := by rfl
theorem jc (addr : Word) : Statement (.jc addr) := by rfl
theorem inp (port : Byte) : Statement (.inp port) := by rfl
theorem cc (addr : Word) : Statement (.cc addr) := by rfl
theorem undefCall (sel : BitVec 2) (addr : Word) : Statement (.undefCall sel addr) := by
  have h : ∀ x : BitVec 2, opcodeLength (0b11#2 ++ x ++ 0b1101#4 : BitVec 8) = 3 := by decide +kernel
  exact (h sel).symm
theorem sbi (imm8 : Byte) : Statement (.sbi imm8) := by rfl
theorem jpo (addr : Word) : Statement (.jpo addr) := by rfl
theorem cpo (addr : Word) : Statement (.cpo addr) := by rfl
theorem ani (imm8 : Byte) : Statement (.ani imm8) := by rfl
theorem jpe (addr : Word) : Statement (.jpe addr) := by rfl
theorem cpe (addr : Word) : Statement (.cpe addr) := by rfl
theorem xri (imm8 : Byte) : Statement (.xri imm8) := by rfl
theorem jp (addr : Word) : Statement (.jp addr) := by rfl
theorem cp (addr : Word) : Statement (.cp addr) := by rfl
theorem ori (imm8 : Byte) : Statement (.ori imm8) := by rfl
theorem jm (addr : Word) : Statement (.jm addr) := by rfl
theorem cm (addr : Word) : Statement (.cm addr) := by rfl
theorem cpi (imm8 : Byte) : Statement (.cpi imm8) := by rfl
theorem nop : Statement .nop := by rfl
theorem staxB : Statement .staxB := by rfl
theorem inxB : Statement .inxB := by rfl
theorem inrB : Statement .inrB := by rfl
theorem dcrB : Statement .dcrB := by rfl
theorem rlc : Statement .rlc := by rfl
theorem dadB : Statement .dadB := by rfl
theorem ldaxB : Statement .ldaxB := by rfl
theorem dcxB : Statement .dcxB := by rfl
theorem inrC : Statement .inrC := by rfl
theorem dcrC : Statement .dcrC := by rfl
theorem rrc : Statement .rrc := by rfl
theorem staxD : Statement .staxD := by rfl
theorem inxD : Statement .inxD := by rfl
theorem inrD : Statement .inrD := by rfl
theorem dcrD : Statement .dcrD := by rfl
theorem ral : Statement .ral := by rfl
theorem dadD : Statement .dadD := by rfl
theorem ldaxD : Statement .ldaxD := by rfl
theorem dcxD : Statement .dcxD := by rfl
theorem inrE : Statement .inrE := by rfl
theorem dcrE : Statement .dcrE := by rfl
theorem rar : Statement .rar := by rfl
theorem inxH : Statement .inxH := by rfl
theorem inrH : Statement .inrH := by rfl
theorem dcrH : Statement .dcrH := by rfl
theorem daa : Statement .daa := by rfl
theorem dadH : Statement .dadH := by rfl
theorem dcxH : Statement .dcxH := by rfl
theorem inrL : Statement .inrL := by rfl
theorem dcrL : Statement .dcrL := by rfl
theorem cma : Statement .cma := by rfl
theorem inxSp : Statement .inxSp := by rfl
theorem inrM : Statement .inrM := by rfl
theorem dcrM : Statement .dcrM := by rfl
theorem stc : Statement .stc := by rfl
theorem dadSp : Statement .dadSp := by rfl
theorem dcxSp : Statement .dcxSp := by rfl
theorem inrA : Statement .inrA := by rfl
theorem dcrA : Statement .dcrA := by rfl
theorem cmc : Statement .cmc := by rfl
theorem movBB : Statement .movBB := by rfl
theorem movBC : Statement .movBC := by rfl
theorem movBD : Statement .movBD := by rfl
theorem movBE : Statement .movBE := by rfl
theorem movBH : Statement .movBH := by rfl
theorem movBL : Statement .movBL := by rfl
theorem movBM : Statement .movBM := by rfl
theorem movBA : Statement .movBA := by rfl
theorem movCB : Statement .movCB := by rfl
theorem movCC : Statement .movCC := by rfl
theorem movCD : Statement .movCD := by rfl
theorem movCE : Statement .movCE := by rfl
theorem movCH : Statement .movCH := by rfl
theorem movCL : Statement .movCL := by rfl
theorem movCM : Statement .movCM := by rfl
theorem movCA : Statement .movCA := by rfl
theorem movDB : Statement .movDB := by rfl
theorem movDC : Statement .movDC := by rfl
theorem movDD : Statement .movDD := by rfl
theorem movDE : Statement .movDE := by rfl
theorem movDH : Statement .movDH := by rfl
theorem movDL : Statement .movDL := by rfl
theorem movDM : Statement .movDM := by rfl
theorem movDA : Statement .movDA := by rfl
theorem movEB : Statement .movEB := by rfl
theorem movEC : Statement .movEC := by rfl
theorem movED : Statement .movED := by rfl
theorem movEE : Statement .movEE := by rfl
theorem movEH : Statement .movEH := by rfl
theorem movEL : Statement .movEL := by rfl
theorem movEM : Statement .movEM := by rfl
theorem movEA : Statement .movEA := by rfl
theorem movHB : Statement .movHB := by rfl
theorem movHC : Statement .movHC := by rfl
theorem movHD : Statement .movHD := by rfl
theorem movHE : Statement .movHE := by rfl
theorem movHH : Statement .movHH := by rfl
theorem movHL : Statement .movHL := by rfl
theorem movHM : Statement .movHM := by rfl
theorem movHA : Statement .movHA := by rfl
theorem movLB : Statement .movLB := by rfl
theorem movLC : Statement .movLC := by rfl
theorem movLD : Statement .movLD := by rfl
theorem movLE : Statement .movLE := by rfl
theorem movLH : Statement .movLH := by rfl
theorem movLL : Statement .movLL := by rfl
theorem movLM : Statement .movLM := by rfl
theorem movLA : Statement .movLA := by rfl
theorem movMB : Statement .movMB := by rfl
theorem movMC : Statement .movMC := by rfl
theorem movMD : Statement .movMD := by rfl
theorem movME : Statement .movME := by rfl
theorem movMH : Statement .movMH := by rfl
theorem movML : Statement .movML := by rfl
theorem hlt : Statement .hlt := by rfl
theorem movMA : Statement .movMA := by rfl
theorem movAB : Statement .movAB := by rfl
theorem movAC : Statement .movAC := by rfl
theorem movAD : Statement .movAD := by rfl
theorem movAE : Statement .movAE := by rfl
theorem movAH : Statement .movAH := by rfl
theorem movAL : Statement .movAL := by rfl
theorem movAM : Statement .movAM := by rfl
theorem movAA : Statement .movAA := by rfl
theorem addB : Statement .addB := by rfl
theorem addC : Statement .addC := by rfl
theorem addD : Statement .addD := by rfl
theorem addE : Statement .addE := by rfl
theorem addH : Statement .addH := by rfl
theorem addL : Statement .addL := by rfl
theorem addM : Statement .addM := by rfl
theorem addA : Statement .addA := by rfl
theorem adcB : Statement .adcB := by rfl
theorem adcC : Statement .adcC := by rfl
theorem adcD : Statement .adcD := by rfl
theorem adcE : Statement .adcE := by rfl
theorem adcH : Statement .adcH := by rfl
theorem adcL : Statement .adcL := by rfl
theorem adcM : Statement .adcM := by rfl
theorem adcA : Statement .adcA := by rfl
theorem subB : Statement .subB := by rfl
theorem subC : Statement .subC := by rfl
theorem subD : Statement .subD := by rfl
theorem subE : Statement .subE := by rfl
theorem subH : Statement .subH := by rfl
theorem subL : Statement .subL := by rfl
theorem subM : Statement .subM := by rfl
theorem subA : Statement .subA := by rfl
theorem sbbB : Statement .sbbB := by rfl
theorem sbbC : Statement .sbbC := by rfl
theorem sbbD : Statement .sbbD := by rfl
theorem sbbE : Statement .sbbE := by rfl
theorem sbbH : Statement .sbbH := by rfl
theorem sbbL : Statement .sbbL := by rfl
theorem sbbM : Statement .sbbM := by rfl
theorem sbbA : Statement .sbbA := by rfl
theorem anaB : Statement .anaB := by rfl
theorem anaC : Statement .anaC := by rfl
theorem anaD : Statement .anaD := by rfl
theorem anaE : Statement .anaE := by rfl
theorem anaH : Statement .anaH := by rfl
theorem anaL : Statement .anaL := by rfl
theorem anaM : Statement .anaM := by rfl
theorem anaA : Statement .anaA := by rfl
theorem xraB : Statement .xraB := by rfl
theorem xraC : Statement .xraC := by rfl
theorem xraD : Statement .xraD := by rfl
theorem xraE : Statement .xraE := by rfl
theorem xraH : Statement .xraH := by rfl
theorem xraL : Statement .xraL := by rfl
theorem xraM : Statement .xraM := by rfl
theorem xraA : Statement .xraA := by rfl
theorem oraB : Statement .oraB := by rfl
theorem oraC : Statement .oraC := by rfl
theorem oraD : Statement .oraD := by rfl
theorem oraE : Statement .oraE := by rfl
theorem oraH : Statement .oraH := by rfl
theorem oraL : Statement .oraL := by rfl
theorem oraM : Statement .oraM := by rfl
theorem oraA : Statement .oraA := by rfl
theorem cmpB : Statement .cmpB := by rfl
theorem cmpC : Statement .cmpC := by rfl
theorem cmpD : Statement .cmpD := by rfl
theorem cmpE : Statement .cmpE := by rfl
theorem cmpH : Statement .cmpH := by rfl
theorem cmpL : Statement .cmpL := by rfl
theorem cmpM : Statement .cmpM := by rfl
theorem cmpA : Statement .cmpA := by rfl
theorem rnz : Statement .rnz := by rfl
theorem popB : Statement .popB := by rfl
theorem pushB : Statement .pushB := by rfl
theorem rst0 : Statement .rst0 := by rfl
theorem rz : Statement .rz := by rfl
theorem ret : Statement .ret := by rfl
theorem rst1 : Statement .rst1 := by rfl
theorem rnc : Statement .rnc := by rfl
theorem popD : Statement .popD := by rfl
theorem pushD : Statement .pushD := by rfl
theorem rst2 : Statement .rst2 := by rfl
theorem rc : Statement .rc := by rfl
theorem undefRet : Statement .undefRet := by rfl
theorem rst3 : Statement .rst3 := by rfl
theorem rpo : Statement .rpo := by rfl
theorem popH : Statement .popH := by rfl
theorem xthl : Statement .xthl := by rfl
theorem pushH : Statement .pushH := by rfl
theorem rst4 : Statement .rst4 := by rfl
theorem rpe : Statement .rpe := by rfl
theorem pchl : Statement .pchl := by rfl
theorem xchg : Statement .xchg := by rfl
theorem rst5 : Statement .rst5 := by rfl
theorem rp : Statement .rp := by rfl
theorem popPsw : Statement .popPsw := by rfl
theorem di : Statement .di := by rfl
theorem pushPsw : Statement .pushPsw := by rfl
theorem rst6 : Statement .rst6 := by rfl
theorem rm : Statement .rm := by rfl
theorem sphl : Statement .sphl := by rfl
theorem ei : Statement .ei := by rfl
theorem rst7 : Statement .rst7 := by rfl

end Sys2Proof.Laws.EncodingLength
end

