-- ==== Sys2Proof/Machine/Assembler.lean ====
section
/-! DEFINITION. Assembler text (30_encoding.md R109, R110): a mnemonic, a space, the operands, destination
first, an undefined byte with a leading `*`. Nothing in the machine reads it. -/

namespace Sys2Proof

/-- One hexadecimal digit. -/
def hexDigit (n : BitVec 4) : Char :=
  if n.toNat < 10 then Char.ofNat (48 + n.toNat) else Char.ofNat (55 + n.toNat)

/-- Hexadecimal digits with the trailing H, and with a leading digit 0 where the first is a letter (R109).
Numbers may also be written in decimal; this text is always hexadecimal (log 19). -/
def hexText (digits : List (BitVec 4)) : String :=
  let chars := digits.map hexDigit ++ ['H']
  match digits with
  | [] => String.ofList chars
  | d :: _ => if d.toNat < 10 then String.ofList chars else String.ofList ('0' :: chars)

/-- imm8, or a port number. -/
def byteText (v : Byte) : String := hexText [v.extractLsb' 4 4, v.extractLsb' 0 4]

/-- imm16. -/
def wordText (w : Word) : String :=
  hexText [w.extractLsb' 12 4, w.extractLsb' 8 4, w.extractLsb' 4 4, w.extractLsb' 0 4]

/-- The assembler text of an instruction. -/
def Instr.assembly : Instr → String
  | .nop => "NOP"
  | .lxiB imm16 => "LXI B," ++ wordText imm16
  | .staxB => "STAX B"
  | .inxB => "INX B"
  | .inrB => "INR B"
  | .dcrB => "DCR B"
  | .mviB imm8 => "MVI B," ++ byteText imm8
  | .rlc => "RLC"
  | .undefNop _ => "*NOP"
  | .dadB => "DAD B"
  | .ldaxB => "LDAX B"
  | .dcxB => "DCX B"
  | .inrC => "INR C"
  | .dcrC => "DCR C"
  | .mviC imm8 => "MVI C," ++ byteText imm8
  | .rrc => "RRC"
  | .lxiD imm16 => "LXI D," ++ wordText imm16
  | .staxD => "STAX D"
  | .inxD => "INX D"
  | .inrD => "INR D"
  | .dcrD => "DCR D"
  | .mviD imm8 => "MVI D," ++ byteText imm8
  | .ral => "RAL"
  | .dadD => "DAD D"
  | .ldaxD => "LDAX D"
  | .dcxD => "DCX D"
  | .inrE => "INR E"
  | .dcrE => "DCR E"
  | .mviE imm8 => "MVI E," ++ byteText imm8
  | .rar => "RAR"
  | .lxiH imm16 => "LXI H," ++ wordText imm16
  | .shld addr => "SHLD " ++ wordText addr
  | .inxH => "INX H"
  | .inrH => "INR H"
  | .dcrH => "DCR H"
  | .mviH imm8 => "MVI H," ++ byteText imm8
  | .daa => "DAA"
  | .dadH => "DAD H"
  | .lhld addr => "LHLD " ++ wordText addr
  | .dcxH => "DCX H"
  | .inrL => "INR L"
  | .dcrL => "DCR L"
  | .mviL imm8 => "MVI L," ++ byteText imm8
  | .cma => "CMA"
  | .lxiSp imm16 => "LXI SP," ++ wordText imm16
  | .sta addr => "STA " ++ wordText addr
  | .inxSp => "INX SP"
  | .inrM => "INR M"
  | .dcrM => "DCR M"
  | .mviM imm8 => "MVI M," ++ byteText imm8
  | .stc => "STC"
  | .dadSp => "DAD SP"
  | .lda addr => "LDA " ++ wordText addr
  | .dcxSp => "DCX SP"
  | .inrA => "INR A"
  | .dcrA => "DCR A"
  | .mviA imm8 => "MVI A," ++ byteText imm8
  | .cmc => "CMC"
  | .movBB => "MOV B,B"
  | .movBC => "MOV B,C"
  | .movBD => "MOV B,D"
  | .movBE => "MOV B,E"
  | .movBH => "MOV B,H"
  | .movBL => "MOV B,L"
  | .movBM => "MOV B,M"
  | .movBA => "MOV B,A"
  | .movCB => "MOV C,B"
  | .movCC => "MOV C,C"
  | .movCD => "MOV C,D"
  | .movCE => "MOV C,E"
  | .movCH => "MOV C,H"
  | .movCL => "MOV C,L"
  | .movCM => "MOV C,M"
  | .movCA => "MOV C,A"
  | .movDB => "MOV D,B"
  | .movDC => "MOV D,C"
  | .movDD => "MOV D,D"
  | .movDE => "MOV D,E"
  | .movDH => "MOV D,H"
  | .movDL => "MOV D,L"
  | .movDM => "MOV D,M"
  | .movDA => "MOV D,A"
  | .movEB => "MOV E,B"
  | .movEC => "MOV E,C"
  | .movED => "MOV E,D"
  | .movEE => "MOV E,E"
  | .movEH => "MOV E,H"
  | .movEL => "MOV E,L"
  | .movEM => "MOV E,M"
  | .movEA => "MOV E,A"
  | .movHB => "MOV H,B"
  | .movHC => "MOV H,C"
  | .movHD => "MOV H,D"
  | .movHE => "MOV H,E"
  | .movHH => "MOV H,H"
  | .movHL => "MOV H,L"
  | .movHM => "MOV H,M"
  | .movHA => "MOV H,A"
  | .movLB => "MOV L,B"
  | .movLC => "MOV L,C"
  | .movLD => "MOV L,D"
  | .movLE => "MOV L,E"
  | .movLH => "MOV L,H"
  | .movLL => "MOV L,L"
  | .movLM => "MOV L,M"
  | .movLA => "MOV L,A"
  | .movMB => "MOV M,B"
  | .movMC => "MOV M,C"
  | .movMD => "MOV M,D"
  | .movME => "MOV M,E"
  | .movMH => "MOV M,H"
  | .movML => "MOV M,L"
  | .hlt => "HLT"
  | .movMA => "MOV M,A"
  | .movAB => "MOV A,B"
  | .movAC => "MOV A,C"
  | .movAD => "MOV A,D"
  | .movAE => "MOV A,E"
  | .movAH => "MOV A,H"
  | .movAL => "MOV A,L"
  | .movAM => "MOV A,M"
  | .movAA => "MOV A,A"
  | .addB => "ADD B"
  | .addC => "ADD C"
  | .addD => "ADD D"
  | .addE => "ADD E"
  | .addH => "ADD H"
  | .addL => "ADD L"
  | .addM => "ADD M"
  | .addA => "ADD A"
  | .adcB => "ADC B"
  | .adcC => "ADC C"
  | .adcD => "ADC D"
  | .adcE => "ADC E"
  | .adcH => "ADC H"
  | .adcL => "ADC L"
  | .adcM => "ADC M"
  | .adcA => "ADC A"
  | .subB => "SUB B"
  | .subC => "SUB C"
  | .subD => "SUB D"
  | .subE => "SUB E"
  | .subH => "SUB H"
  | .subL => "SUB L"
  | .subM => "SUB M"
  | .subA => "SUB A"
  | .sbbB => "SBB B"
  | .sbbC => "SBB C"
  | .sbbD => "SBB D"
  | .sbbE => "SBB E"
  | .sbbH => "SBB H"
  | .sbbL => "SBB L"
  | .sbbM => "SBB M"
  | .sbbA => "SBB A"
  | .anaB => "ANA B"
  | .anaC => "ANA C"
  | .anaD => "ANA D"
  | .anaE => "ANA E"
  | .anaH => "ANA H"
  | .anaL => "ANA L"
  | .anaM => "ANA M"
  | .anaA => "ANA A"
  | .xraB => "XRA B"
  | .xraC => "XRA C"
  | .xraD => "XRA D"
  | .xraE => "XRA E"
  | .xraH => "XRA H"
  | .xraL => "XRA L"
  | .xraM => "XRA M"
  | .xraA => "XRA A"
  | .oraB => "ORA B"
  | .oraC => "ORA C"
  | .oraD => "ORA D"
  | .oraE => "ORA E"
  | .oraH => "ORA H"
  | .oraL => "ORA L"
  | .oraM => "ORA M"
  | .oraA => "ORA A"
  | .cmpB => "CMP B"
  | .cmpC => "CMP C"
  | .cmpD => "CMP D"
  | .cmpE => "CMP E"
  | .cmpH => "CMP H"
  | .cmpL => "CMP L"
  | .cmpM => "CMP M"
  | .cmpA => "CMP A"
  | .rnz => "RNZ"
  | .popB => "POP B"
  | .jnz addr => "JNZ " ++ wordText addr
  | .jmp addr => "JMP " ++ wordText addr
  | .cnz addr => "CNZ " ++ wordText addr
  | .pushB => "PUSH B"
  | .adi imm8 => "ADI " ++ byteText imm8
  | .rst0 => "RST 0"
  | .rz => "RZ"
  | .ret => "RET"
  | .jz addr => "JZ " ++ wordText addr
  | .undefJmp addr => "*JMP " ++ wordText addr
  | .cz addr => "CZ " ++ wordText addr
  | .call addr => "CALL " ++ wordText addr
  | .aci imm8 => "ACI " ++ byteText imm8
  | .rst1 => "RST 1"
  | .rnc => "RNC"
  | .popD => "POP D"
  | .jnc addr => "JNC " ++ wordText addr
  | .out port => "OUT " ++ byteText port
  | .cnc addr => "CNC " ++ wordText addr
  | .pushD => "PUSH D"
  | .sui imm8 => "SUI " ++ byteText imm8
  | .rst2 => "RST 2"
  | .rc => "RC"
  | .undefRet => "*RET"
  | .jc addr => "JC " ++ wordText addr
  | .inp port => "IN " ++ byteText port
  | .cc addr => "CC " ++ wordText addr
  | .undefCall _ addr => "*CALL " ++ wordText addr
  | .sbi imm8 => "SBI " ++ byteText imm8
  | .rst3 => "RST 3"
  | .rpo => "RPO"
  | .popH => "POP H"
  | .jpo addr => "JPO " ++ wordText addr
  | .xthl => "XTHL"
  | .cpo addr => "CPO " ++ wordText addr
  | .pushH => "PUSH H"
  | .ani imm8 => "ANI " ++ byteText imm8
  | .rst4 => "RST 4"
  | .rpe => "RPE"
  | .pchl => "PCHL"
  | .jpe addr => "JPE " ++ wordText addr
  | .xchg => "XCHG"
  | .cpe addr => "CPE " ++ wordText addr
  | .xri imm8 => "XRI " ++ byteText imm8
  | .rst5 => "RST 5"
  | .rp => "RP"
  | .popPsw => "POP PSW"
  | .jp addr => "JP " ++ wordText addr
  | .di => "DI"
  | .cp addr => "CP " ++ wordText addr
  | .pushPsw => "PUSH PSW"
  | .ori imm8 => "ORI " ++ byteText imm8
  | .rst6 => "RST 6"
  | .rm => "RM"
  | .sphl => "SPHL"
  | .jm addr => "JM " ++ wordText addr
  | .ei => "EI"
  | .cm addr => "CM " ++ wordText addr
  | .cpi imm8 => "CPI " ++ byteText imm8
  | .rst7 => "RST 7"

end Sys2Proof
end

