-- ==== Sys2Proof/Tests/Slice0.lean ====
section
/-! SUPPORT. The model's own tests: what WellFormed refuses, the opcode map of 30_encoding.md R105, one-step
vectors of 95_test_vectors.md, and for every obligation with hypotheses a state that meets them. -/

namespace Sys2Proof.Tests

open Sys2Proof Sys2Proof.Machine

set_option Elab.async false

/-! ## Helpers -/

/-- The start state of 95_test_vectors.md L2: a run in progress at 0100H, everything else as constructed, the
listed bytes in memory, and the coming poll answered "no interrupt". -/
def fixture (cells : List Host.Cell) : State :=
  { State.reset with
    pc := 0x0100
    runState := .running
    memAttached := true
    ioAttached := true
    mem := Memory.ofCells cells
    host := [.answer .noInterrupt] }

/-- What `view` shows of the state one step later, if the step answers one. -/
def after {α : Type} (s : State) (view : State → α) : Option α :=
  match step s with
  | .next t => some (view t)
  | .fault _ => none
  | .refused _ => none

/-- Why a step is refused, if it is. -/
def refusal (s : State) : Option Refusal :=
  match step s with
  | .next _ => none
  | .fault _ => none
  | .refused r => some r

/-- A, F, PC and CYCLES. -/
def aFlags (t : State) : Byte × Byte × Word × Nat := (t.a, t.f, t.pc, t.cycles)

/-- SP, PC, CYCLES and the two bytes at `a` and `a + 1`. -/
def stackView (a : Word) (t : State) : Word × Word × Nat × Byte × Byte :=
  (t.sp, t.pc, t.cycles, t.mem.read a, t.mem.read (a + 1))

/-! ## WellFormed: an ill-formed term for each check -/

theorem test_wellFormed_undefNop : (Instr.undefNop 0b000).wellFormed = false := by decide

theorem test_wellFormed_undefCall : (Instr.undefCall 0b00 0x1234).wellFormed = false := by decide

theorem test_wellFormed_accepts :
    (Instr.undefNop 0b001).wellFormed = true ∧ (Instr.undefNop 0b111).wellFormed = true ∧
      (Instr.undefCall 0b01 0).wellFormed = true ∧ (Instr.undefCall 0b11 0xFFFF).wellFormed = true := by
  decide

/-! ## Decoding: each row of the opcode map R105, with 34H 12H after the opcode byte -/

/-- The instructions that the sixteen bytes of a row of the map begin. -/
def mapRow (hi : BitVec 4) : List Instr :=
  (List.range 16).map fun lo => decodeOpcode (hi ++ BitVec.ofNat 4 lo) 0x34 0x12

theorem test_map_0x : mapRow 0x0 =
    [
      .nop, .lxiB 0x1234, .staxB, .inxB, .inrB, .dcrB, .mviB 0x34, .rlc, .undefNop 1, .dadB, .ldaxB,
      .dcxB, .inrC, .dcrC, .mviC 0x34, .rrc] := by
  decide +kernel

theorem test_map_1x : mapRow 0x1 =
    [
      .undefNop 2, .lxiD 0x1234, .staxD, .inxD, .inrD, .dcrD, .mviD 0x34, .ral, .undefNop 3, .dadD,
      .ldaxD, .dcxD, .inrE, .dcrE, .mviE 0x34, .rar] := by
  decide +kernel

theorem test_map_2x : mapRow 0x2 =
    [
      .undefNop 4, .lxiH 0x1234, .shld 0x1234, .inxH, .inrH, .dcrH, .mviH 0x34, .daa, .undefNop 5,
      .dadH, .lhld 0x1234, .dcxH, .inrL, .dcrL, .mviL 0x34, .cma] := by
  decide +kernel

theorem test_map_3x : mapRow 0x3 =
    [
      .undefNop 6, .lxiSp 0x1234, .sta 0x1234, .inxSp, .inrM, .dcrM, .mviM 0x34, .stc, .undefNop 7,
      .dadSp, .lda 0x1234, .dcxSp, .inrA, .dcrA, .mviA 0x34, .cmc] := by
  decide +kernel

theorem test_map_4x : mapRow 0x4 =
    [
      .movBB, .movBC, .movBD, .movBE, .movBH, .movBL, .movBM, .movBA, .movCB, .movCC, .movCD, .movCE,
      .movCH, .movCL, .movCM, .movCA] := by
  decide +kernel

theorem test_map_5x : mapRow 0x5 =
    [
      .movDB, .movDC, .movDD, .movDE, .movDH, .movDL, .movDM, .movDA, .movEB, .movEC, .movED, .movEE,
      .movEH, .movEL, .movEM, .movEA] := by
  decide +kernel

theorem test_map_6x : mapRow 0x6 =
    [
      .movHB, .movHC, .movHD, .movHE, .movHH, .movHL, .movHM, .movHA, .movLB, .movLC, .movLD, .movLE,
      .movLH, .movLL, .movLM, .movLA] := by
  decide +kernel

theorem test_map_7x : mapRow 0x7 =
    [
      .movMB, .movMC, .movMD, .movME, .movMH, .movML, .hlt, .movMA, .movAB, .movAC, .movAD, .movAE,
      .movAH, .movAL, .movAM, .movAA] := by
  decide +kernel

theorem test_map_8x : mapRow 0x8 =
    [
      .addB, .addC, .addD, .addE, .addH, .addL, .addM, .addA, .adcB, .adcC, .adcD, .adcE, .adcH, .adcL,
      .adcM, .adcA] := by
  decide +kernel

theorem test_map_9x : mapRow 0x9 =
    [
      .subB, .subC, .subD, .subE, .subH, .subL, .subM, .subA, .sbbB, .sbbC, .sbbD, .sbbE, .sbbH, .sbbL,
      .sbbM, .sbbA] := by
  decide +kernel

theorem test_map_Ax : mapRow 0xA =
    [
      .anaB, .anaC, .anaD, .anaE, .anaH, .anaL, .anaM, .anaA, .xraB, .xraC, .xraD, .xraE, .xraH, .xraL,
      .xraM, .xraA] := by
  decide +kernel

theorem test_map_Bx : mapRow 0xB =
    [
      .oraB, .oraC, .oraD, .oraE, .oraH, .oraL, .oraM, .oraA, .cmpB, .cmpC, .cmpD, .cmpE, .cmpH, .cmpL,
      .cmpM, .cmpA] := by
  decide +kernel

theorem test_map_Cx : mapRow 0xC =
    [
      .rnz, .popB, .jnz 0x1234, .jmp 0x1234, .cnz 0x1234, .pushB, .adi 0x34, .rst0, .rz, .ret,
      .jz 0x1234, .undefJmp 0x1234, .cz 0x1234, .call 0x1234, .aci 0x34, .rst1] := by
  decide +kernel

theorem test_map_Dx : mapRow 0xD =
    [
      .rnc, .popD, .jnc 0x1234, .out 0x34, .cnc 0x1234, .pushD, .sui 0x34, .rst2, .rc, .undefRet,
      .jc 0x1234, .inp 0x34, .cc 0x1234, .undefCall 1 0x1234, .sbi 0x34, .rst3] := by
  decide +kernel

theorem test_map_Ex : mapRow 0xE =
    [
      .rpo, .popH, .jpo 0x1234, .xthl, .cpo 0x1234, .pushH, .ani 0x34, .rst4, .rpe, .pchl, .jpe 0x1234,
      .xchg, .cpe 0x1234, .undefCall 2 0x1234, .xri 0x34, .rst5] := by
  decide +kernel

theorem test_map_Fx : mapRow 0xF =
    [
      .rp, .popPsw, .jp 0x1234, .di, .cp 0x1234, .pushPsw, .ori 0x34, .rst6, .rm, .sphl, .jm 0x1234,
      .ei, .cm 0x1234, .undefCall 3 0x1234, .cpi 0x34, .rst7] := by
  decide +kernel

/-! Encodings of the rules of files 40 to 45, written out bit by bit, a family each. -/

theorem test_decode_data_transfer :
    decode [0b01_000_001#8] = .ok (.movBC, []) ∧ decode [0b01_111_110#8] = .ok (.movAM, []) ∧
    decode [0b01_110_101#8] = .ok (.movML, []) ∧ decode [0b00_110_110#8, 0xA5] = .ok (.mviM 0xA5, []) ∧
    decode [0b00_11_0001#8, 0x00, 0x30] = .ok (.lxiSp 0x3000, []) ∧
    decode [0b0011_1010#8, 0xFE, 0xFF] = .ok (.lda 0xFFFE, []) ∧
    decode [0b0010_0010#8, 0x00, 0x40] = .ok (.shld 0x4000, []) ∧
    decode [0b00_01_1010#8] = .ok (.ldaxD, []) ∧ decode [0b00_00_0010#8] = .ok (.staxB, []) ∧
    decode [0b1110_1011#8] = .ok (.xchg, []) := by
  decide +kernel

theorem test_decode_arithmetic :
    decode [0b10000_010#8] = .ok (.addD, []) ∧ decode [0b10001_110#8] = .ok (.adcM, []) ∧
    decode [0b1101_0110#8, 0x01] = .ok (.sui 0x01, []) ∧ decode [0b10011_101#8] = .ok (.sbbL, []) ∧
    decode [0b00_110_100#8] = .ok (.inrM, []) ∧ decode [0b00_111_101#8] = .ok (.dcrA, []) ∧
    decode [0b00_11_0011#8] = .ok (.inxSp, []) ∧ decode [0b00_10_1011#8] = .ok (.dcxH, []) ∧
    decode [0b00_00_1001#8] = .ok (.dadB, []) ∧ decode [0b0010_0111#8] = .ok (.daa, []) := by
  decide +kernel

theorem test_decode_logical :
    decode [0b10100_001#8] = .ok (.anaC, []) ∧ decode [0b1110_1110#8, 0x81] = .ok (.xri 0x81, []) ∧
    decode [0b10110_110#8] = .ok (.oraM, []) ∧ decode [0b10111_011#8] = .ok (.cmpE, []) ∧
    decode [0b1111_1110#8, 0x4A] = .ok (.cpi 0x4A, []) := by
  decide +kernel

theorem test_decode_rotate :
    decode [0b0000_0111#8] = .ok (.rlc, []) ∧
    decode [0b0000_1111#8] = .ok (.rrc, []) ∧ decode [0b0001_0111#8] = .ok (.ral, []) ∧
    decode [0b0001_1111#8] = .ok (.rar, []) ∧ decode [0b0010_1111#8] = .ok (.cma, []) ∧
    decode [0b0011_1111#8] = .ok (.cmc, []) ∧ decode [0b0011_0111#8] = .ok (.stc, []) := by
  decide +kernel

theorem test_decode_branch :
    decode [0b1100_0011#8, 0x00, 0x3C] = .ok (.jmp 0x3C00, []) ∧
    decode [0b11_100_010#8, 0x00, 0x20] = .ok (.jpo 0x2000, []) ∧
    decode [0b1100_1101#8, 0x34, 0x12] = .ok (.call 0x1234, []) ∧
    decode [0b11_111_100#8, 0x34, 0x12] = .ok (.cm 0x1234, []) ∧
    decode [0b1100_1001#8] = .ok (.ret, []) ∧ decode [0b11_011_000#8] = .ok (.rc, []) ∧
    decode [0b1110_1001#8] = .ok (.pchl, []) ∧ decode [0b11_101_111#8] = .ok (.rst5, []) := by
  decide +kernel

theorem test_decode_stack_io_control :
    decode [0b11_01_0101#8] = .ok (.pushD, []) ∧ decode [0b1111_0001#8] = .ok (.popPsw, []) ∧
    decode [0b1110_0011#8] = .ok (.xthl, []) ∧ decode [0b1111_1001#8] = .ok (.sphl, []) ∧
    decode [0b1101_1011#8, 0x10] = .ok (.inp 0x10, []) ∧ decode [0b1101_0011#8, 0x10] = .ok (.out 0x10, []) ∧
    decode [0b1111_1011#8] = .ok (.ei, []) ∧ decode [0b1111_0011#8] = .ok (.di, []) ∧
    decode [0b0111_0110#8] = .ok (.hlt, []) ∧ decode [0b0000_0000#8] = .ok (.nop, []) := by
  decide +kernel

theorem test_decode_undefined :
    decode [0b00_001_000#8] = .ok (.undefNop 0b001, []) ∧ decode [0b00_111_000#8] = .ok (.undefNop 0b111, []) ∧
    decode [0xCB#8, 0x00, 0x3C] = .ok (.undefJmp 0x3C00, []) ∧ decode [0xD9#8] = .ok (.undefRet, []) ∧
    decode [0xDD#8, 0x00, 0x20] = .ok (.undefCall 0b01 0x2000, []) ∧
    decode [0xFD#8, 0x00, 0x20] = .ok (.undefCall 0b11 0x2000, []) := by
  decide +kernel

/-- A list that ends inside an instruction is rejected by name. -/
theorem test_decode_truncated :
    decode [] = .error .noBytes ∧ decode [0x06#8] = .error (.truncated 0x06) ∧
      decode [0xC3#8, 0x00] = .error (.truncated 0xC3) := by
  decide +kernel

/-- The host's two questions about a row of the table: a 3-byte row, and a row whose operand bits are 0. -/
theorem test_table_word :
    decodeTableWord 24 0x1234C3 = some (.jmp 0x1234) ∧ decodeTableWord 8 0x36 = some (.mviM 0) ∧
      after (State.reset.withFetchWord 24 0x1234C3) (fun t => (t.pc, t.instrs)) = some (0x1234, 1) := by
  decide +kernel

/-- 30_encoding.md R109: hexadecimal with a trailing H and a leading digit. -/
theorem test_assembly :
    (Instr.mviM 0xAA).assembly = "MVI M,0AAH" ∧ (Instr.jmp 0x3C00).assembly = "JMP 3C00H" ∧
      Instr.movAB.assembly = "MOV A,B" ∧ (Instr.ofRst 3).assembly = "RST 3" := by
  decide +kernel

/-! ### Data transfer vectors (95_test_vectors.md L2, and the example of the rule) -/

theorem test_mov_r_r :
    after { fixture [(0x0100, 0x41)] with c := 0x5A }
      (fun t => (t.b, t.c, t.f, t.pc, t.cycles)) = some (0x5A, 0x5A, 0x02, 0x0101, 5) := by
  decide +kernel

theorem test_mov_m_r :
    after { fixture [(0x0100, 0x77)] with a := 0x3C, h := 0x20 }
      (fun t => (t.mem.read 0x2000, t.pc, t.cycles)) = some (0x3C, 0x0101, 7) := by
  decide +kernel

theorem test_mov_r_m :
    after { fixture [(0x0100, 0x7E), (0x2000, 0x99)] with h := 0x20 }
      (fun t => (t.a, t.pc, t.cycles)) = some (0x99, 0x0101, 7) := by
  decide +kernel

theorem test_mvi_m_top_of_memory :
    after { fixture [(0x0100, 0x36), (0x0101, 0xA5)] with h := 0xFF, l := 0xFF }
      (fun t => (t.mem.read 0xFFFF, t.pc, t.cycles)) = some (0xA5, 0x0102, 10) := by
  decide +kernel

theorem test_lxi_sp :
    after (fixture [(0x0100, 0x31), (0x0101, 0x00), (0x0102, 0x30)])
      (fun t => (t.sp, t.pc, t.cycles)) = some (0x3000, 0x0103, 10) := by
  decide +kernel

theorem test_lda :
    after (fixture [(0x0100, 0x3A), (0x0101, 0xFF), (0x0102, 0xFF), (0xFFFF, 0x42)])
      (fun t => (t.a, t.pc, t.cycles)) = some (0x42, 0x0103, 13) := by
  decide +kernel

theorem test_sta :
    after { fixture [(0x0100, 0x32), (0x0101, 0x34), (0x0102, 0x12)] with a := 0x81 }
      (fun t => (t.mem.read 0x1234, t.pc, t.cycles)) = some (0x81, 0x0103, 13) := by
  decide +kernel

theorem test_lhld_wraps :
    after (fixture [(0x0100, 0x2A), (0x0101, 0xFF), (0x0102, 0xFF), (0xFFFF, 0x11), (0x0000, 0x22)])
      (fun t => (t.h, t.l, t.pc, t.cycles)) = some (0x22, 0x11, 0x0103, 16) := by
  decide +kernel

theorem test_shld :
    after { fixture [(0x0100, 0x22), (0x0101, 0x00), (0x0102, 0x40)] with h := 0xAB, l := 0xCD }
      (fun t => (t.mem.read 0x4000, t.mem.read 0x4001, t.cycles)) = some (0xCD, 0xAB, 16) := by
  decide +kernel

theorem test_ldax_d :
    after { fixture [(0x0100, 0x1A), (0x2010, 0x6E)] with d := 0x20, e := 0x10 }
      (fun t => (t.a, t.cycles)) = some (0x6E, 7) := by
  decide +kernel

theorem test_stax_b :
    after { fixture [(0x0100, 0x02)] with a := 0x5F, b := 0x30 }
      (fun t => (t.mem.read 0x3000, t.cycles)) = some (0x5F, 7) := by
  decide +kernel

theorem test_xchg :
    after { fixture [(0x0100, 0xEB)] with d := 0x12, e := 0x34, h := 0x56, l := 0x78 }
      (fun t => (t.d, t.e, t.h, t.l, t.cycles)) = some (0x56, 0x78, 0x12, 0x34, 4) := by
  decide +kernel

/-! ### Arithmetic vectors (95_test_vectors.md L2, and the example of the rule) -/

theorem test_add_1 : after { fixture [(0x0100, 0x80)] with a := 0x6C, b := 0x2E } aFlags
    = some (0x9A, 0x96, 0x0101, 4) := by decide +kernel

theorem test_add_2 : after { fixture [(0x0100, 0x80)] with a := 0x80, b := 0x80 } aFlags
    = some (0x00, 0x47, 0x0101, 4) := by decide +kernel

theorem test_aci : after { fixture [(0x0100, 0xCE), (0x0101, 0x00)] with a := 0xFF, f := 0x03 } aFlags
    = some (0x00, 0x57, 0x0102, 7) := by decide +kernel

theorem test_adc : after { fixture [(0x0100, 0x89)] with a := 0x42, c := 0x3D, f := 0x03 } aFlags
    = some (0x80, 0x92, 0x0101, 4) := by decide +kernel

theorem test_adi : after { fixture [(0x0100, 0xC6), (0x0101, 0x42)] with a := 0x14 } aFlags
    = some (0x56, 0x06, 0x0102, 7) := by decide +kernel

theorem test_sub_1 : after { fixture [(0x0100, 0x97)] with a := 0x3E } aFlags
    = some (0x00, 0x56, 0x0101, 4) := by decide +kernel

theorem test_sub_2 : after { fixture [(0x0100, 0x90)] with b := 0x01 } aFlags
    = some (0xFF, 0x87, 0x0101, 4) := by decide +kernel

theorem test_sbi : after { fixture [(0x0100, 0xDE), (0x0101, 0x05)] with a := 0x05, f := 0x03 } aFlags
    = some (0xFF, 0x87, 0x0102, 7) := by decide +kernel

theorem test_sui : after { fixture [(0x0100, 0xD6), (0x0101, 0x01)] with a := 0x10 } aFlags
    = some (0x0F, 0x06, 0x0102, 7) := by decide +kernel

theorem test_sbb_m : after { fixture [(0x0100, 0x9E), (0x2000, 0x0F)] with a := 0x10, h := 0x20 } aFlags
    = some (0x01, 0x02, 0x0101, 7) := by decide +kernel

theorem test_inr_1 :
    after { fixture [(0x0100, 0x04)] with b := 0xFF, f := 0x03 }
      (fun t => (t.b, t.f, t.cycles)) = some (0x00, 0x57, 5) := by
  decide +kernel

theorem test_inr_2 : after { fixture [(0x0100, 0x0C)] with c := 0x7F } (fun t => (t.c, t.f, t.cycles))
    = some (0x80, 0x92, 5) := by decide +kernel

theorem test_inr_m :
    after { fixture [(0x0100, 0x34), (0x3000, 0x0F)] with h := 0x30 }
      (fun t => (t.mem.read 0x3000, t.f, t.cycles)) = some (0x10, 0x12, 10) := by
  decide +kernel

theorem test_dcr_1 : after { fixture [(0x0100, 0x15)] with f := 0x03 } (fun t => (t.d, t.f, t.cycles))
    = some (0xFF, 0x87, 5) := by decide +kernel

theorem test_dcr_2 : after { fixture [(0x0100, 0x1D)] with e := 0x10 } (fun t => (t.e, t.f, t.cycles))
    = some (0x0F, 0x06, 5) := by decide +kernel

theorem test_dcr_m :
    after { fixture [(0x0100, 0x35)] with h := 0x20 }
      (fun t => (t.mem.read 0x2000, t.f, t.cycles)) = some (0xFF, 0x86, 10) := by
  decide +kernel

theorem test_inx_sp_wraps :
    after { fixture [(0x0100, 0x33)] with sp := 0xFFFF }
      (fun t => (t.sp, t.f, t.cycles)) = some (0x0000, 0x02, 5) := by
  decide +kernel

theorem test_dcx_b_wraps : after (fixture [(0x0100, 0x0B)]) (fun t => (t.b, t.c, t.f, t.cycles))
    = some (0xFF, 0xFF, 0x02, 5) := by decide +kernel

theorem test_dad_1 : after { fixture [(0x0100, 0x29)] with h := 0x80 } (fun t => (t.h, t.l, t.f, t.cycles))
    = some (0x00, 0x00, 0x03, 10) := by decide +kernel

theorem test_dad_2 :
    after { fixture [(0x0100, 0x09)] with b := 0x33, c := 0x9F, h := 0xA1, l := 0x7B }
      (fun t => (t.h, t.l, t.f, t.cycles)) = some (0xD5, 0x1A, 0x02, 10) := by
  decide +kernel

theorem test_daa_1 : after { fixture [(0x0100, 0x27)] with a := 0x9B } aFlags
    = some (0x01, 0x13, 0x0101, 4) := by decide +kernel

theorem test_daa_2 : after { fixture [(0x0100, 0x27)] with a := 0x02, f := 0x03 } aFlags
    = some (0x62, 0x03, 0x0101, 4) := by decide +kernel

/-! ### Logical vectors (95_test_vectors.md L2, and the example of the rule) -/

theorem test_ana_1 : after { fixture [(0x0100, 0xA1)] with a := 0xFC, c := 0x0F } aFlags
    = some (0x0C, 0x16, 0x0101, 4) := by decide +kernel

theorem test_ana_2 : after { fixture [(0x0100, 0xA0)] with a := 0x30, b := 0x03, f := 0x03 } aFlags
    = some (0x00, 0x46, 0x0101, 4) := by decide +kernel

theorem test_ani : after { fixture [(0x0100, 0xE6), (0x0101, 0x0F)] with a := 0x3A } aFlags
    = some (0x0A, 0x16, 0x0102, 7) := by decide +kernel

theorem test_xra_1 : after { fixture [(0x0100, 0xAF)] with a := 0x5C, f := 0x13 } aFlags
    = some (0x00, 0x46, 0x0101, 4) := by decide +kernel

theorem test_xra_2 : after { fixture [(0x0100, 0xAA)] with a := 0x5C, d := 0x78 } aFlags
    = some (0x24, 0x06, 0x0101, 4) := by decide +kernel

theorem test_xri : after { fixture [(0x0100, 0xEE), (0x0101, 0x81)] with a := 0x3B } aFlags
    = some (0xBA, 0x82, 0x0102, 7) := by decide +kernel

theorem test_ora : after { fixture [(0x0100, 0xB3)] with a := 0x33, e := 0x0F } aFlags
    = some (0x3F, 0x06, 0x0101, 4) := by decide +kernel

theorem test_ori : after (fixture [(0x0100, 0xF6), (0x0101, 0x00)]) aFlags
    = some (0x00, 0x46, 0x0102, 7) := by decide +kernel

theorem test_cmp_1 : after { fixture [(0x0100, 0xBB)] with a := 0x0A, e := 0x05 } aFlags
    = some (0x0A, 0x16, 0x0101, 4) := by decide +kernel

theorem test_cmp_2 : after { fixture [(0x0100, 0xBB)] with a := 0x02, e := 0x05 } aFlags
    = some (0x02, 0x83, 0x0101, 4) := by decide +kernel

theorem test_cpi : after { fixture [(0x0100, 0xFE), (0x0101, 0x4A)] with a := 0x4A } aFlags
    = some (0x4A, 0x56, 0x0102, 7) := by decide +kernel

theorem test_rlc : after { fixture [(0x0100, 0x07)] with a := 0xF2 } aFlags
    = some (0xE5, 0x03, 0x0101, 4) := by decide +kernel

theorem test_rrc : after { fixture [(0x0100, 0x0F)] with a := 0xF2, f := 0x03 } aFlags
    = some (0x79, 0x02, 0x0101, 4) := by decide +kernel

theorem test_ral : after { fixture [(0x0100, 0x17)] with a := 0xB5 } aFlags
    = some (0x6A, 0x03, 0x0101, 4) := by decide +kernel

theorem test_rar : after { fixture [(0x0100, 0x1F)] with a := 0x6A, f := 0x03 } aFlags
    = some (0xB5, 0x02, 0x0101, 4) := by decide +kernel

theorem test_cma : after { fixture [(0x0100, 0x2F)] with a := 0x51 } aFlags
    = some (0xAE, 0x02, 0x0101, 4) := by decide +kernel

theorem test_cmc : after { fixture [(0x0100, 0x3F)] with f := 0x03 } aFlags
    = some (0x00, 0x02, 0x0101, 4) := by decide +kernel

theorem test_stc : after { fixture [(0x0100, 0x37)] with f := 0xD6 } aFlags
    = some (0x00, 0xD7, 0x0101, 4) := by decide +kernel

/-! ### Branch vectors (95_test_vectors.md L2, and the example of the rule) -/

theorem test_jmp :
    after (fixture [(0x0100, 0xC3), (0x0101, 0x00), (0x0102, 0x3C)])
      (fun t => (t.pc, t.cycles)) = some (0x3C00, 10) := by
  decide +kernel

theorem test_jz_taken :
    after { fixture [(0x0100, 0xCA), (0x0101, 0x00), (0x0102, 0x20)] with f := 0x42 }
      (fun t => (t.pc, t.cycles)) = some (0x2000, 10) := by
  decide +kernel

theorem test_jpo_not_taken :
    after { fixture [(0x0100, 0xE2), (0x0101, 0x00), (0x0102, 0x20)] with f := 0x06 }
      (fun t => (t.pc, t.cycles)) = some (0x0103, 10) := by
  decide +kernel

theorem test_jm_taken :
    after { fixture [(0x0100, 0xFA), (0x0101, 0x00), (0x0102, 0x20)] with f := 0x82 }
      (fun t => (t.pc, t.cycles)) = some (0x2000, 10) := by
  decide +kernel

theorem test_call_wraps :
    after { fixture [(0x0100, 0xCD), (0x0101, 0x00), (0x0102, 0x20)] with sp := 0x0001 }
      (stackView 0xFFFF) = some (0xFFFF, 0x2000, 17, 0x03, 0x01) := by
  decide +kernel

theorem test_call_fetch_wraps :
    after { fixture [(0xFFFE, 0xCD), (0xFFFF, 0x34), (0x0000, 0x12)] with pc := 0xFFFE, sp := 0x3000 }
      (stackView 0x2FFE) = some (0x2FFE, 0x1234, 17, 0x01, 0x00) := by
  decide +kernel

theorem test_cnz_not_taken :
    after { fixture [(0x0100, 0xC4), (0x0101, 0x00), (0x0102, 0x20)] with sp := 0x3000, f := 0x42 }
      (stackView 0x2FFE) = some (0x3000, 0x0103, 11, 0x00, 0x00) := by
  decide +kernel

theorem test_cc_taken :
    after { fixture [(0x0100, 0xDC), (0x0101, 0x00), (0x0102, 0x20)] with sp := 0x3000, f := 0x03 }
      (stackView 0x2FFE) = some (0x2FFE, 0x2000, 17, 0x03, 0x01) := by
  decide +kernel

theorem test_ret :
    after { fixture [(0x0100, 0xC9), (0x2FFE, 0x03), (0x2FFF, 0x01)] with sp := 0x2FFE }
      (fun t => (t.sp, t.pc, t.cycles)) = some (0x3000, 0x0103, 10) := by
  decide +kernel

theorem test_rz_not_taken :
    after { fixture [(0x0100, 0xC8), (0x2FFE, 0x03), (0x2FFF, 0x01)] with sp := 0x2FFE }
      (fun t => (t.sp, t.pc, t.cycles)) = some (0x2FFE, 0x0101, 5) := by
  decide +kernel

theorem test_rc_taken :
    after { fixture [(0x0100, 0xD8), (0x2FFE, 0x03), (0x2FFF, 0x01)] with sp := 0x2FFE, f := 0x03 }
      (fun t => (t.sp, t.pc, t.cycles)) = some (0x3000, 0x0103, 11) := by
  decide +kernel

theorem test_pchl : after { fixture [(0x0100, 0xE9)] with h := 0x41, l := 0x3E } (fun t => (t.pc, t.cycles))
    = some (0x413E, 5) := by decide +kernel

theorem test_rst7 : after { fixture [(0x0100, 0xFF)] with sp := 0x3000 } (stackView 0x2FFE)
    = some (0x2FFE, 0x0038, 11, 0x01, 0x01) := by decide +kernel

/-! ### Stack, input and output, machine control (95_test_vectors.md L2, and the example of the rule) -/

theorem test_push_b :
    after { fixture [(0x0100, 0xC5)] with b := 0x12, c := 0x34, sp := 0x3000 }
      (stackView 0x2FFE) = some (0x2FFE, 0x0101, 11, 0x34, 0x12) := by
  decide +kernel

theorem test_push_psw :
    after { fixture [(0x0100, 0xF5)] with a := 0x1F, f := 0x47, sp := 0x502A }
      (stackView 0x5028) = some (0x5028, 0x0101, 11, 0x47, 0x1F) := by
  decide +kernel

theorem test_pop_psw_pins :
    after { fixture [(0x0100, 0xF1), (0x2FFE, 0xFF), (0x2FFF, 0x12)] with sp := 0x2FFE }
      (fun t => (t.a, t.f, t.sp, t.cycles)) = some (0x12, 0xD7, 0x3000, 10) := by
  decide +kernel

theorem test_pop_psw_zero :
    after { fixture [(0x0100, 0xF1)] with sp := 0x2FFE, f := 0xD7 }
      (fun t => (t.a, t.f, t.sp, t.cycles)) = some (0x00, 0x02, 0x3000, 10) := by
  decide +kernel

theorem test_pop_b_wraps :
    after { fixture [(0x0100, 0xC1), (0xFFFF, 0x34), (0x0000, 0x12)] with sp := 0xFFFF }
      (fun t => (t.b, t.c, t.sp, t.cycles)) = some (0x12, 0x34, 0x0001, 10) := by
  decide +kernel

theorem test_xthl :
    after { fixture [(0x0100, 0xE3), (0x10AD, 0xF0), (0x10AE, 0x0D)] with sp := 0x10AD, h := 0x0B, l := 0x3C }
      (fun t => (t.h, t.l, t.sp, t.mem.read 0x10AD, t.mem.read 0x10AE, t.cycles)) = some (0x0D, 0xF0, 0x10AD, 0x3C, 0x0B, 18) := by
  decide +kernel

theorem test_sphl : after { fixture [(0x0100, 0xF9)] with h := 0x50, l := 0x6C } (fun t => (t.sp, t.cycles))
    = some (0x506C, 5) := by decide +kernel

theorem test_in :
    after { fixture [(0x0100, 0xDB), (0x0101, 0x10)] with ioAnswers := [0x5A] }
      (fun t => (t.a, t.pc, t.cycles, t.ioAnswers)) = some (0x5A, 0x0102, 10, []) := by
  decide +kernel

theorem test_out :
    after { fixture [(0x0100, 0xD3), (0x0101, 0x10)] with a := 0x41 }
      (fun t => (t.ioLog, t.pc, t.cycles)) = some ([.write 0x10 0x41], 0x0102, 10) := by
  decide +kernel

theorem test_ei : after (fixture [(0x0100, 0xFB)]) (fun t => (t.ie, t.inhibit, t.pc, t.cycles))
    = some (true, true, 0x0101, 4) := by decide +kernel

theorem test_di :
    after { fixture [(0x0100, 0xF3)] with ie := true }
      (fun t => (t.ie, t.inhibit, t.pc, t.cycles)) = some (false, false, 0x0101, 4) := by
  decide +kernel

theorem test_hlt : after (fixture [(0x0100, 0x76)]) (fun t => (t.halted, t.pc, t.cycles))
    = some (true, 0x0101, 7) := by decide +kernel

theorem test_nop :
    after { fixture [(0x0100, 0x00)] with inhibit := true }
      (fun t => (t.inhibit, t.pc, t.cycles)) = some (false, 0x0101, 4) := by
  decide +kernel

/-! ### Undefined bytes (95_test_vectors.md L2, and the example of the rule) -/

theorem test_undef_nop : after (fixture [(0x0100, 0x38)]) (fun t => (t.pc, t.cycles))
    = some (0x0101, 4) := by decide +kernel

theorem test_undef_jmp :
    after (fixture [(0x0100, 0xCB), (0x0101, 0x00), (0x0102, 0x3C)])
      (fun t => (t.pc, t.cycles)) = some (0x3C00, 10) := by
  decide +kernel

theorem test_undef_ret :
    after { fixture [(0x0100, 0xD9), (0x2FFE, 0x03), (0x2FFF, 0x01)] with sp := 0x2FFE }
      (fun t => (t.sp, t.pc, t.cycles)) = some (0x3000, 0x0103, 10) := by
  decide +kernel

theorem test_undef_call :
    after { fixture [(0x0100, 0xED), (0x0101, 0x00), (0x0102, 0x20)] with sp := 0x3000 }
      (stackView 0x2FFE) = some (0x2FFE, 0x2000, 17, 0x03, 0x01) := by
  decide +kernel

/-! ### Interrupts and the loop (95_test_vectors.md L2, and the example of the rule) -/

theorem test_interrupt_accepted :
    after { fixture [(0x0100, 0x00)] with ie := true, sp := 0x3000, host := [.answer (.rst 2)] }
      (fun t => (t.ie, stackView 0x2FFE t)) = some (false, 0x2FFE, 0x0010, 11, 0x00, 0x01) := by
  decide +kernel

theorem test_interrupt_discarded :
    after { fixture [(0x0100, 0x00)] with sp := 0x3000, host := [.answer (.rst 2)] }
      (fun t => (t.ie, stackView 0x2FFE t)) = some (false, 0x3000, 0x0101, 4, 0x00, 0x00) := by
  decide +kernel

theorem test_ei_window_holds :
    after { fixture [(0x0101, 0x00)] with pc := 0x0101, ie := true, inhibit := true, sp := 0x3000, host := [.answer (.rst 1)] }
      (fun t => (t.ie, t.pc, t.inhibit)) = some (true, 0x0102, false) := by
  decide +kernel

theorem test_ei_without_delay :
    after { fixture [(0x0100, 0xFB)] with params := { Params.reference with eiDelay := false } }
      (fun t => (t.ie, t.inhibit)) = some (true, false) := by
  decide +kernel

theorem test_interrupt_wakes_hlt :
    after { fixture [(0x0100, 0x76)] with pc := 0x0101, ie := true, halted := true, sp := 0x3000, host := [.answer (.rst 7)] }
      (fun t => (t.halted, stackView 0x2FFE t)) = some (false, 0x2FFE, 0x0038, 11, 0x01, 0x01) := by
  decide +kernel

theorem test_halted_without_ie_idles :
    after { fixture [(0x0100, 0x76)] with pc := 0x0101, halted := true, host := [.answer (.rst 7)] }
      (fun t => (t.halted, t.pc, t.cycles)) = some (true, 0x0101, 0) := by
  decide +kernel

theorem test_quit_after_step :
    after { fixture [(0x0100, 0x3C)] with a := 0x01, host := [.answer .quit] }
      (fun t => (t.a, t.runState, t.cycles)) = some (0x02, .stopped, 5) := by
  decide +kernel

theorem test_quit_before_step :
    after { fixture [(0x0100, 0x3C)] with a := 0x01, host := [.answer .quit], params := { Params.reference with quitOrder := .beforeStep } }
      (fun t => (t.a, t.runState, t.cycles)) = some (0x01, .stopped, 0) := by
  decide +kernel

theorem test_sentinel_stops :
    after { fixture [(0x0100, 0x00)] with params := { Params.reference with sentinel := some 0x0101 } }
      (fun t => (t.pc, t.runState)) = some (0x0101, .stopped) := by
  decide +kernel

/-- 45_undocumented.md R325. -/
theorem test_refuse_mode :
    refusal { fixture [(0x0100, 0xCB)] with params := { Params.reference with undocMode := .refuse } }
      = some (.undefinedOpcode 0xCB 0x0100) := by
  decide +kernel

/-- 70_reset_and_hazards.md R371, 60_exceptions.md R352: IE survives `Run`; F is pinned by a snapshot load. -/
theorem test_host_moves :
    after { State.reset with runState := .stopped, ie := true, halted := true, host := [.run 0x0100] }
        (fun t => (t.pc, t.ie, t.halted, t.runState)) = some (0x0100, true, false, .running) ∧
    after { State.reset with host := [.snapshotLoad true { State.reset.snapshot with f := 0xFF }] }
        (fun t => t.f) = some 0xD7 := by
  decide +kernel

/-- Memory survives `Run` (R371); an attached port replaces it, and its unlisted byte makes no entry. -/
theorem test_host_moves_memory :
    after { State.reset with runState := .stopped, mem := [(5, 0x11)], host := [.run 0x0100] } (fun t => t.mem)
      = some [(5, 0x11)] ∧
    after { State.reset with mem := [(5, 0x11)], host := [.attachMemory (some [(7, 0xC9), (5, 0x00)])] }
      (fun t => t.mem) = some [(7, 0xC9)] := by
  decide +kernel

/-! ## Witnesses: for each obligation with hypotheses, a state and operands that meet them together -/

/-- A state of a run over plain RAM with an instruction at PC and a stack. -/
def running : State := { fixture [(0x0100, 0x00), (0x2000, 0x5A)] with sp := 0x3000, h := 0x20 }

theorem running_inv : running.Inv :=
  ⟨by decide +kernel, by decide +kernel, by decide +kernel, by decide +kernel, by decide +kernel⟩

theorem witness_DecodeOfEncodeGivesTheInstructionBack :
    (Instr.undefNop 1).wellFormed = true ∧ (Instr.undefNop 7).wellFormed = true ∧
    (Instr.undefCall 3 0xFFFF).wellFormed = true ∧ (Instr.mviM 0xFF).wellFormed = true ∧
    Instr.hlt.wellFormed = true := by decide

theorem witness_RamReadGivesTheLastByteWritten :
    running.params.memPort = .ram ∧ running.MemCanonical ∧ (0x0000 : Word) ≠ 0xFFFF := by decide +kernel

theorem witness_CanonicalMemoriesThatReadAlikeAreEqual :
    running.mem.wf = true ∧ (Memory.ofCells [(0x2000, 0x5A)]).wf = true ∧
      ∀ a : Word, running.mem.read a = (Memory.ofCells [(0x2000, 0x5A)]).read a :=
  ⟨by decide +kernel, by decide +kernel, fun _ => rfl⟩

theorem witness_SixteenBitAccessIsLittleEndian :
    (running.MemCanonical ∧ running.params.memPort = .ram) ∧
    ({ running with sp := 0 }.MemCanonical ∧ { running with sp := 0 }.params.memPort = .ram) := by
  decide +kernel

theorem witness_PopReturnsThePushedWord :
    running.MemCanonical ∧ running.params.memPort = .ram ∧ { running with sp := 1 }.MemCanonical := by
  decide +kernel

theorem witness_MovAndMviWriteOneRegisterOrByte :
    running.MemCanonical ∧ { running with h := 0xFF, l := 0xFF }.MemCanonical := by decide +kernel

theorem witness_PairTransfers : running.MemCanonical := by decide +kernel

theorem witness_InrAndDcrKeepCarry : running.MemCanonical := by decide +kernel

theorem witness_XthlAndSphl : running.MemCanonical ∧ { running with sp := 0xFFFF }.MemCanonical := by
  decide +kernel

theorem witness_UndefinedBytesExecuteAsTheirAliases :
    running.MemCanonical ∧ { running with sp := 1 }.MemCanonical := by decide +kernel

/-- A byte to store at HL, at an address operand at the top of memory, and through BC and DE. -/
theorem witness_LdaLdaxStaAndStaxMoveTheAccumulator :
    running.MemCanonical ∧
    (∃ (i : Instr) (a : Word), i = .sta 0xFFFF ∧ a = 0xFFFF) ∧
    (∃ (i : Instr) (a : Word), i = .staxB ∧ a = running.b ++ running.c) ∧
    (∃ (i : Instr) (a : Word), i = .staxD ∧ a = running.d ++ running.e) :=
  ⟨by decide +kernel, ⟨_, _, rfl, rfl⟩, ⟨_, _, rfl, rfl⟩, ⟨_, _, rfl, rfl⟩⟩

theorem witness_AddAndAdcSetAccumulatorAndFlags :
    AluForm .add running .addA running.a ∧ AluForm .add running .addM (running.read .data1 0x2000) ∧
    AluForm .add running (.adi 0xFF) 0xFF ∧ AluForm .adc running .adcB running.b ∧
    AluForm .adc running .adcM (running.read .data1 0x2000) ∧ AluForm .adc running (.aci 0xFF) 0xFF :=
  ⟨.inl ⟨.reg .a, rfl, rfl⟩, .inl ⟨.m, rfl, rfl⟩, .inr rfl, .inl ⟨.reg .b, rfl, rfl⟩, .inl ⟨.m, rfl, rfl⟩,
    .inr rfl⟩

theorem witness_SubAndSbbSetBorrowAndAuxiliaryCarry :
    AluForm .sub running .subA running.a ∧ AluForm .sub running .subM (running.read .data1 0x2000) ∧
    AluForm .sub running (.sui 0xFF) 0xFF ∧ AluForm .sbb running .sbbL running.l ∧
    AluForm .sbb running .sbbM (running.read .data1 0x2000) ∧ AluForm .sbb running (.sbi 0xFF) 0xFF :=
  ⟨.inl ⟨.reg .a, rfl, rfl⟩, .inl ⟨.m, rfl, rfl⟩, .inr rfl, .inl ⟨.reg .l, rfl, rfl⟩, .inl ⟨.m, rfl, rfl⟩,
    .inr rfl⟩

theorem witness_DaaAfterDecimalAdditionGivesTheDecimalSum :
    ((99 < 100 ∧ 0 < 100) ∧ { running with a := 0x99 }.a = BitVec.ofNat 8 (99 / 10 * 16 + 99 % 10) ∧
      (0x00 : Byte) = BitVec.ofNat 8 (0 / 10 * 16 + 0 % 10) ∧
      AluForm .add { running with a := 0x99 } (.adi 0x00) 0x00) ∧
    ({ running with a := 0x99, f := 0x03 }.a = BitVec.ofNat 8 (99 / 10 * 16 + 99 % 10) ∧
      (0x99 : Byte) = BitVec.ofNat 8 (99 / 10 * 16 + 99 % 10) ∧
      AluForm .adc { running with a := 0x99, f := 0x03 } (.aci 0x99) 0x99 ∧
      1 = { running with a := 0x99, f := 0x03 }.flags.cy.toNat) :=
  ⟨⟨by decide, by decide, by decide, .inr rfl⟩, by decide, by decide, .inr rfl, by decide⟩

theorem witness_AnaXraAndOraSetTheFlags :
    AluForm .ana running .anaA running.a ∧ AluForm .ana running .anaM (running.read .data1 0x2000) ∧
    AluForm .ana running (.ani 0xFF) 0xFF ∧ AluForm .xra running .xraA running.a ∧
    AluForm .xra running (.xri 0x00) 0x00 ∧ AluForm .ora running .oraM (running.read .data1 0x2000) ∧
    AluForm .ora running (.ori 0x00) 0x00 :=
  ⟨.inl ⟨.reg .a, rfl, rfl⟩, .inl ⟨.m, rfl, rfl⟩, .inr rfl, .inl ⟨.reg .a, rfl, rfl⟩, .inr rfl,
    .inl ⟨.m, rfl, rfl⟩, .inr rfl⟩

theorem witness_CmpSetsTheFlagsOfSubAndKeepsA :
    AluForm .cmp running .cmpA running.a ∧ AluForm .cmp running .cmpM (running.read .data1 0x2000) ∧
    AluForm .cmp running (.cpi 0xFF) 0xFF :=
  ⟨.inl ⟨.reg .a, rfl, rfl⟩, .inl ⟨.m, rfl, rfl⟩, .inr rfl⟩

theorem witness_ReturnsPopPc :
    condHolds .pe { running with f := 0x06 }.flags = true ∧
    condHolds .po { running with f := 0x06 }.flags = false ∧ Instr.ret = .ret := by
  decide +kernel

theorem witness_JumpsSetPc :
    condHolds .nz running.flags = true ∧ condHolds .z running.flags = false ∧
    condHolds .m { running with f := 0x82 }.flags = true ∧
    condHolds .p { running with f := 0x82 }.flags = false := by
  decide +kernel

theorem witness_CallsPushTheReturnAddress :
    running.MemCanonical ∧ condHolds .nz running.flags = true ∧ condHolds .z running.flags = false ∧
    (∃ (i : Instr) (target : Word), i = .call 0xFFFF ∧ target = 0xFFFF) ∧
    (∃ (i : Instr) (target : Word), i = .ofCccc .nz 0 ∧ target = 0) ∧
    (∃ (i : Instr) (target : Word), i = .ofRst 7 ∧ target = BitVec.ofNat 16 ((7 : BitVec 3).toNat * 8)) :=
  ⟨by decide +kernel, by decide +kernel, by decide +kernel, ⟨_, _, rfl, rfl⟩, ⟨_, _, rfl, rfl⟩,
    ⟨_, _, rfl, rfl⟩⟩

theorem witness_RetUndoesCallAndPopPswUndoesPushPsw :
    running.params.memPort = .ram ∧ running.MemCanonical ∧ running.Inv :=
  ⟨rfl, by decide +kernel, running_inv⟩

theorem witness_PushStoresThePairBelowSp :
    running.MemCanonical ∧ running.FlagsPinned ∧ StackPair.psw = .psw := by decide +kernel

theorem witness_InTakesTheHostsAnswerAndOutGivesA :
    ∃ x rest, { running with ioAnswers := [0x5A] }.ioAnswers = x :: rest := ⟨_, _, rfl⟩

/-- `running` with the answer to its coming poll used up. -/
def polled : State := { running with host := [] }

/-- `running` has its poll answered "no interrupt"; past the list, `polled` has it answered by the free value. -/
theorem running_polls : running.Polls .noInterrupt polled ∧ polled.Polls polled.pollAnswer polled :=
  ⟨⟨rfl, .inr ⟨_, rfl, rfl⟩⟩, rfl, .inl ⟨rfl, rfl, rfl⟩⟩

/-- `running` with undefined bytes refused and one of them at PC. -/
def refusing : State :=
  { polled with
    mem := Memory.ofCells [(0x0100, 0x08)]
    params := { Params.reference with undocMode := .refuse } }

theorem witness_RefuseModeRefusesUndefinedBytes :
    { refusing with host := [.answer .noInterrupt] }.Polls .noInterrupt refusing ∧
    accepted .noInterrupt refusing = none ∧
    refusing.halted = false ∧ ¬(Signal.noInterrupt = .quit ∧ refusing.params.quitOrder = .beforeStep) ∧
    refusing.params.undocMode = .refuse ∧ decode (fetchBytes refusing) = .ok (.undefNop 1, []) ∧
    (Instr.undefNop 1).wellFormed = true ∧
    opcode (.undefNop 1) ∈ [0x08#8, 0x10, 0x18, 0x20, 0x28, 0x30, 0x38, 0xCB, 0xD9, 0xDD, 0xED, 0xFD] :=
  ⟨⟨rfl, .inr ⟨_, rfl, rfl⟩⟩, rfl, rfl, by decide, rfl, by decide +kernel, by decide, by decide +kernel⟩

theorem witness_FlagsChangeOnlyAsTheTableSays :
    (∃ t, exec (.ofAlu .ana .m) running = .next t) ∧ ∃ t, exec .stc running = .next t :=
  ⟨⟨_, rfl⟩, _, rfl⟩

theorem witness_MemoryChangesOnlyAtTheStoredAddresses :
    ∃ t, exec (.mviM 0x77) running = .next t ∧ storeAddrs (.mviM 0x77) running = [0x2000] :=
  ⟨_, rfl, by decide +kernel⟩

theorem witness_RegistersChangeOnlyAsDestinations :
    (∃ t, exec (.mviM 0x77) running = .next t) ∧ Reg.b ∉ destRegs (.mviM 0x77) ∧
      writesSp (.mviM 0x77) = false ∧ writesPc (.mviM 0x77) = false :=
  ⟨⟨_, rfl⟩, by decide⟩

theorem witness_OnlyEiDiAndHltWriteControlState :
    (∃ t, exec .ei running = .next t) ∧ (∀ port, Instr.ei ≠ .inp port) ∧ ∀ port, Instr.ei ≠ .out port :=
  ⟨⟨_, rfl⟩, by simp, by simp⟩

theorem witness_StepRunsTheDecodedInstruction :
    running.Polls .noInterrupt polled ∧ accepted .noInterrupt polled = none ∧ polled.halted = false ∧
    ¬(Signal.noInterrupt = .quit ∧ polled.params.quitOrder = .beforeStep) ∧
    decode (fetchBytes polled) = .ok (.nop, []) ∧ Instr.nop.wellFormed = true ∧
    ¬(polled.params.undocMode = .refuse ∧ isUndefined .nop = true) ∧
    ∃ t, exec .nop { polled with
      inhibit := false, pc := polled.pc + BitVec.ofNat 16 (encode .nop).length } = .next t :=
  ⟨running_polls.1, rfl, rfl, by decide, by decide +kernel, by decide, by decide, _, rfl⟩

theorem witness_FetchReadsTheBytesAtPc :
    running.params.memPort = .ram ∧ { running with pc := 0xFFFF }.params.memPort = .ram := by
  decide +kernel

/-- `running` with interrupts enabled and RST 7 as the answer to the coming poll. -/
def interrupted : State := { running with ie := true, host := [.answer (.rst 7)] }

theorem witness_AcceptedInterruptEntersItsVector :
    interrupted.Polls (.rst 7) { interrupted with host := [] } ∧ interrupted.ie = true ∧
    interrupted.inhibit = false ∧ interrupted.MemCanonical :=
  ⟨⟨rfl, .inr ⟨_, rfl, rfl⟩⟩, rfl, rfl, by decide +kernel⟩

theorem witness_UnacceptedInterruptIsDiscarded :
    ({ running with host := [.answer (.rst 7)] }.Polls (.rst 7) polled ∧ polled.ie = false) ∧
    ({ interrupted with inhibit := true }.Polls (.rst 7) { interrupted with inhibit := true, host := [] } ∧
      { interrupted with inhibit := true, host := [] }.inhibit = true) :=
  ⟨⟨⟨rfl, .inr ⟨_, rfl, rfl⟩⟩, rfl⟩, ⟨rfl, .inr ⟨_, rfl, rfl⟩⟩, rfl⟩

theorem witness_HaltedBlockIdles :
    { running with halted := true }.Polls .noInterrupt { polled with halted := true } ∧
    accepted .noInterrupt { polled with halted := true } = none ∧
    { polled with halted := true }.halted = true ∧
    ¬(Signal.noInterrupt = .quit ∧ polled.params.quitOrder = .beforeStep) :=
  ⟨⟨rfl, .inr ⟨_, rfl, rfl⟩⟩, rfl, rfl, by decide⟩

/-- A step that wakes, one that halts, one that enables. -/
theorem witness_OnlyHltHaltsOnlyEntryWakesOnlyEiEnables :
    after { interrupted with halted := true } (fun t => t.halted) = some false ∧
    after { running with mem := Memory.ofCells [(0x0100, 0x76)] } (fun t => t.halted) = some true ∧
    after { running with mem := Memory.ofCells [(0x0100, 0xFB)] } (fun t => t.ie) = some true ∧
    running.halted = false ∧ running.ie = false := by
  decide +kernel

theorem witness_RunEndsByQuitOrSentinelOnly :
    { running with host := [.answer .quit] }.Polls .quit polled ∧
    after { running with host := [.answer .quit] } (fun t => t.runState) = some .stopped ∧
    after { running with params := { Params.reference with quitOrder := .beforeStep }, host := [.answer .quit] }
      (fun t => (t.pc, t.runState)) = some (0x0100, .stopped) ∧
    after running (fun t => t.runState) = some .running :=
  ⟨⟨rfl, .inr ⟨[], rfl, rfl⟩⟩, by decide +kernel, by decide +kernel, by decide +kernel⟩

theorem witness_EiWindowCoversOneInstruction :
    { running with mem := Memory.ofCells [(0x0100, 0xFB)] }.Polls .noInterrupt
      { polled with mem := Memory.ofCells [(0x0100, 0xFB)] } ∧
    decode (fetchBytes { polled with mem := Memory.ofCells [(0x0100, 0xFB)] }) = .ok (.ei, []) ∧
    after { running with mem := Memory.ofCells [(0x0100, 0xFB)] } (fun t => t.inhibit) = some true ∧
    { running with inhibit := true }.inhibit = true :=
  ⟨⟨rfl, .inr ⟨_, rfl, rfl⟩⟩, by decide +kernel, by decide +kernel, rfl⟩

theorem witness_RunSetsPcAndKeepsTheRest :
    { running with runState := .ready, host := [.run 0xFFFF] }.host = .run 0xFFFF :: [] ∧
    { running with runState := .ready }.runState = .ready ∧
    { running with runState := .stopped }.runState = .stopped := by
  decide +kernel

theorem witness_AttachingBothPortsMakesTheBlockReady :
    (State.reset.runState = .idle ∧ State.reset.memAttached = false ∧ State.reset.ioAttached = false) ∧
    { State.reset with host := [.attachMemory (some [(0, 1)]), .attachIo true] }.host
      = .attachMemory (some [(0, 1)]) :: .attachIo true :: [] ∧
    { State.reset with host := [.attachIo true, .attachMemory (some [(0, 1)])] }.host
      = .attachIo true :: .attachMemory (some [(0, 1)]) :: [] ∧
    { State.reset with host := [.attachMemory none] }.host = .attachMemory none :: [] ∧
    { State.reset with host := [.attachIo false] }.host = .attachIo false :: [] := by
  decide +kernel

theorem witness_SnapshotLoadRestoresCpuStateAndMemory :
    running.FlagsPinned ∧ running.MemCanonical ∧
    { State.reset with host := [.snapshotLoad true running.snapshot] }.host
      = .snapshotLoad true running.snapshot :: [] ∧
    { State.reset with host := [.snapshotLoad false running.snapshot] }.host
      = .snapshotLoad false running.snapshot :: [] := by
  decide +kernel

theorem witness_NoStepFaultsAndOnlyThreeThingsAreRefused :
    refusal { refusing with host := [.answer .noInterrupt] } = some (.undefinedOpcode 0x08 0x0100) ∧
    refusal { running with host := [.run 0] } = some .runDuringRun ∧
    refusal { running with host := [.attachIo true] } = some .attachDuringRun := by
  decide +kernel

theorem witness_EveryStepCompletesUnderTheAliasPolicy :
    interrupted.params.undocMode = .runAlias ∧ interrupted.HostInTurn := by
  refine ⟨rfl, fun _ m rest h => ?_⟩
  have hm : m = .answer (.rst 7) := (List.cons.inj h).1.symm
  subst hm
  simp

theorem witness_StepKeepsTheInvariant : running.Inv ∧ ∃ t, step running = .next t :=
  ⟨running_inv, _, rfl⟩

end Sys2Proof.Tests
end

section
/-! SUPPORT. The frame of the CPU registers: what any instruction may write of the flags, the general registers,
SP and PC. One rule per state update, from those one fact per shared operation, and then one split over the
instructions. -/

namespace Sys2Proof

/-! ### The registers an operand names -/

/-- The register that an operand of 30_encoding.md R95 is; M is none. -/
def Loc.regs : Loc → List Reg
  | .reg r => [r]
  | .m => []

/-- The two registers of a pair (30_encoding.md R96); SP has none. -/
def Pair.regs : Pair → List Reg
  | .bc => [.b, .c]
  | .de => [.d, .e]
  | .hl => [.h, .l]
  | .sp => []

/-- Whether a pair is SP. -/
def Pair.isSp : Pair → Bool
  | .bc | .de | .hl => false
  | .sp => true

/-- The registers POP writes (30_encoding.md R96), F aside. -/
def StackPair.regs : StackPair → List Reg
  | .bc => [.b, .c]
  | .de => [.d, .e]
  | .hl => [.h, .l]
  | .psw => [.a]

namespace Machine

/-! ### The rows of the table of 10_state.md R34 -/

/-- The row of the instructions that write no flag. -/
def FlagEffects.none : FlagEffects := ⟨.kept, .kept, .kept, .kept, .kept⟩

/-- The row of the instructions that write all five flags from their result. -/
def FlagEffects.all : FlagEffects := ⟨.fromResult, .fromResult, .fromResult, .fromResult, .fromResult⟩

/-- The row of INR and DCR. -/
def FlagEffects.allButCy : FlagEffects := ⟨.fromResult, .fromResult, .fromResult, .fromResult, .kept⟩

/-- The rows of the instructions that write CY alone. -/
def FlagEffects.onlyCy (cy : FlagEffect) : FlagEffects := ⟨.kept, .kept, .kept, .kept, cy⟩

/-- The rows of ANA, XRA and ORA, which clear CY. -/
def FlagEffects.logic (ac : FlagEffect) : FlagEffects := ⟨.fromResult, .fromResult, ac, .fromResult, .cleared⟩

/-- The rows of POP: all five flags from the popped byte, or none. -/
def FlagEffects.pop : StackPair → FlagEffects
  | .bc | .de | .hl => .none
  | .psw => ⟨.popped, .popped, .popped, .popped, .popped⟩

/-- Each flag after an instruction agrees with its entry in the row. -/
def FlagEffects.Agree (e : FlagEffects) (before after : Flags) : Prop :=
  e.s.Agrees before.s after.s ∧ e.z.Agrees before.z after.z ∧ e.ac.Agrees before.ac after.ac ∧
    e.p.Agrees before.p after.p ∧ e.cy.Agrees before.cy after.cy

/-- Any flags agree with the row of the instructions that write all five from their result. -/
theorem FlagEffects.agree_all (before after : Flags) : FlagEffects.all.Agree before after :=
  ⟨trivial, trivial, trivial, trivial, trivial⟩

/-- From `s` to `t` the flags change as `eff` says, no general register changes outside `regs`, and SP and PC
change only where `sp` and `pc` say so. -/
structure CpuFrame (s t : State) (eff : FlagEffects) (regs : List Reg) (sp pc : Bool) : Prop where
  flags : eff.Agree s.flags t.flags
  reg : ∀ r, r ∉ regs → t.reg r = s.reg r
  sp : sp = false → t.sp = s.sp
  pc : pc = false → t.pc = s.pc

/-! ### One rule per state update

Each rule puts one more update after a part of an operation whose frame is known. -/

namespace CpuFrame

variable {s u t : State} {eff : FlagEffects} {regs : List Reg} {sp pc : Bool}

/-- A state is in every frame of itself. -/
theorem refl (s : State) (regs : List Reg) (sp pc : Bool) : CpuFrame s s .none regs sp pc :=
  ⟨⟨rfl, rfl, rfl, rfl, rfl⟩, fun _ _ => rfl, fun _ => rfl, fun _ => rfl⟩

/-- An update of anything but the registers of the CPU. -/
theorem sameCpu (h : CpuFrame s u eff regs sp pc) (hf : t.f = u.f) (hr : ∀ r, t.reg r = u.reg r)
    (hsp : t.sp = u.sp) (hpc : t.pc = u.pc) : CpuFrame s t eff regs sp pc where
  flags := by rw [u.flags_of_f hf]; exact h.flags
  reg r hn := (hr r).trans (h.reg r hn)
  sp hs := hsp.trans (h.sp hs)
  pc hp := hpc.trans (h.pc hp)

theorem write (h : CpuFrame s u eff regs sp pc) (a : Word) (v : Byte) :
    CpuFrame s (u.write a v) eff regs sp pc :=
  h.sameCpu rfl (fun _ => rfl) rfl rfl

theorem setReg (h : CpuFrame s u eff regs sp pc) (r : Reg) (v : Byte) (hr : r ∈ regs) :
    CpuFrame s (u.setReg r v) eff regs sp pc where
  flags := by rw [u.flags_of_f (u.setReg_f r v)]; exact h.flags
  reg q hq := (u.reg_setReg_other v fun h' : q = r => hq (h' ▸ hr)).trans (h.reg q hq)
  sp hs := (u.setReg_sp r v).trans (h.sp hs)
  pc hp := (u.setReg_pc r v).trans (h.pc hp)

theorem setLoc {x : Loc} (h : CpuFrame s u eff x.regs sp pc) (v : Byte) :
    CpuFrame s (u.setLoc x v) eff x.regs sp pc := by
  cases x with
  | reg r => exact h.setReg r v (List.mem_singleton.2 rfl)
  | m => exact h.write _ v

theorem setSp (h : CpuFrame s u eff regs true pc) (v : Word) :
    CpuFrame s { u with sp := v } eff regs true pc :=
  ⟨h.flags, h.reg, nofun, h.pc⟩

theorem setPc (h : CpuFrame s u eff regs sp true) (v : Word) :
    CpuFrame s { u with pc := v } eff regs sp true :=
  ⟨h.flags, h.reg, h.sp, nofun⟩

/-- A pair is written as its two registers. -/
theorem setPair {rp : Pair} (h : CpuFrame s u eff rp.regs (sp || rp.isSp) pc) (v : Word) :
    CpuFrame s (u.setPair rp v) eff rp.regs (sp || rp.isSp) pc := by
  cases rp with
  | bc => exact (h.setReg .b (hiByte v) (by decide)).setReg .c (loByte v) (by decide)
  | de => exact (h.setReg .d (hiByte v) (by decide)).setReg .e (loByte v) (by decide)
  | hl => exact (h.setReg .h (hiByte v) (by decide)).setReg .l (loByte v) (by decide)
  | sp =>
    rw [Pair.isSp, Bool.or_true] at h ⊢
    exact h.setSp v

/-- A write of the flags is judged by the flags written. -/
theorem putFlags {eff' : FlagEffects} (h : CpuFrame s u eff regs sp pc) {fl : Flags}
    (hfl : eff'.Agree s.flags fl) : CpuFrame s (u.putFlags fl) eff' regs sp pc where
  flags := by rw [State.flags_putFlags]; exact hfl
  reg := h.reg
  sp := h.sp
  pc := h.pc

theorem push16 (h : CpuFrame s u eff regs true pc) (v : Word) :
    CpuFrame s (u.push16 v) eff regs true pc := by
  rw [u.push16_eq v]
  exact (h.setSp (u.sp - 2)).sameCpu rfl (fun _ => rfl) rfl rfl

end CpuFrame

/-! ### The shared operations -/

section Operations

variable (s : State)

theorem opMov_frame (d src : Loc) : CpuFrame s (opMov d src s) .none d.regs false false :=
  (CpuFrame.refl s ..).setLoc _

theorem opMvi_frame (d : Loc) (v : Byte) : CpuFrame s (opMvi d v s) .none d.regs false false :=
  (CpuFrame.refl s ..).setLoc _

theorem opLxi_frame (rp : Pair) (w : Word) : CpuFrame s (opLxi rp w s) .none rp.regs rp.isSp false :=
  (CpuFrame.refl s ..).setPair (sp := false) _

theorem opLoadA_frame (a : Word) : CpuFrame s (opLoadA a s) .none [.a] false false :=
  (CpuFrame.refl s ..).setReg .a (s.read .data1 a) (by decide)

theorem opStoreA_frame (a : Word) : CpuFrame s (opStoreA a s) .none [] false false :=
  (CpuFrame.refl s ..).write _ _

theorem opLhld_frame (a : Word) : CpuFrame s (opLhld a s) .none [.h, .l] false false :=
  (CpuFrame.refl s ..).setPair (rp := .hl) (sp := false) _

theorem opShld_frame (a : Word) : CpuFrame s (opShld a s) .none [] false false :=
  ((CpuFrame.refl s ..).write _ _).write _ _

theorem opXchg_frame : CpuFrame s (opXchg s) .none [.d, .e, .h, .l] false false :=
  ((((CpuFrame.refl s ..).setReg .h s.d (by decide)).setReg .l s.e (by decide)).setReg .d s.h
    (by decide)).setReg .e s.l (by decide)

/-- The operations that write the flags and then A. -/
theorem accumulator_frame {eff : FlagEffects} {fl : Flags} (v : Byte) (h : eff.Agree s.flags fl) :
    CpuFrame s { s.putFlags fl with a := v } eff [.a] false false :=
  ((CpuFrame.refl s ..).putFlags h).setReg .a v (by decide)

theorem opAdd_frame (v : Byte) (c : Bool) : CpuFrame s (opAdd v c s) .all [.a] false false :=
  accumulator_frame s _ (FlagEffects.agree_all ..)

theorem opSub_frame (v : Byte) (c : Bool) : CpuFrame s (opSub v c s) .all [.a] false false :=
  accumulator_frame s _ (FlagEffects.agree_all ..)

theorem opDaa_frame : CpuFrame s (opDaa s) .all [.a] false false :=
  accumulator_frame s _ (FlagEffects.agree_all ..)

theorem opAna_frame (v : Byte) : CpuFrame s (opAna v s) (.logic .fromResult) [.a] false false :=
  accumulator_frame s _ ⟨trivial, trivial, trivial, trivial, rfl⟩

/-- XRA and ORA. -/
theorem putLogic_frame (v : Byte) : CpuFrame s (s.putLogic v) (.logic .cleared) [.a] false false :=
  accumulator_frame s _ ⟨trivial, trivial, rfl, trivial, rfl⟩

/-- RLC, RRC, RAL and RAR. -/
theorem rotate_frame (cy : Bool) (v : Byte) :
    CpuFrame s { s.putCy cy with a := v } (.onlyCy .fromResult) [.a] false false :=
  accumulator_frame s v ⟨rfl, rfl, rfl, rfl, trivial⟩

theorem opCma_frame : CpuFrame s (opCma s) .none [.a] false false :=
  (CpuFrame.refl s ..).setReg .a (~~~s.a) (by decide)

theorem opCmp_frame (v : Byte) : CpuFrame s (opCmp v s) .all [] false false :=
  (CpuFrame.refl s ..).putFlags (FlagEffects.agree_all ..)

/-- STC and CMC. -/
theorem putCy_frame {cy : Bool} {e : FlagEffect} (h : e.Agrees s.flags.cy cy) :
    CpuFrame s (s.putCy cy) (.onlyCy e) [] false false :=
  (CpuFrame.refl s ..).putFlags ⟨rfl, rfl, rfl, rfl, h⟩

theorem opInr_frame (d : Loc) : CpuFrame s (opInr d s) .allButCy d.regs false false :=
  ((CpuFrame.refl s ..).setLoc _).putFlags ⟨trivial, trivial, trivial, trivial, rfl⟩

theorem opDcr_frame (d : Loc) : CpuFrame s (opDcr d s) .allButCy d.regs false false :=
  ((CpuFrame.refl s ..).setLoc _).putFlags ⟨trivial, trivial, trivial, trivial, rfl⟩

theorem opInx_frame (rp : Pair) : CpuFrame s (opInx rp s) .none rp.regs rp.isSp false :=
  (CpuFrame.refl s ..).setPair (sp := false) _

theorem opDcx_frame (rp : Pair) : CpuFrame s (opDcx rp s) .none rp.regs rp.isSp false :=
  (CpuFrame.refl s ..).setPair (sp := false) _

theorem opDad_frame (rp : Pair) : CpuFrame s (opDad rp s) (.onlyCy .fromResult) [.h, .l] false false :=
  ((CpuFrame.refl s ..).setPair (rp := .hl) (sp := false) _).putFlags ⟨rfl, rfl, rfl, rfl, trivial⟩

theorem opJump_frame (a : Word) : CpuFrame s (opJump a s) .none [] false true :=
  (CpuFrame.refl s ..).setPc a

theorem opCall_frame (a : Word) : CpuFrame s (opCall a s) .none [] true true :=
  ((CpuFrame.refl s ..).push16 s.pc).setPc a

theorem opRet_frame : CpuFrame s (opRet s) .none [] true true :=
  ((CpuFrame.refl s ..).setSp (s.sp + 2)).setPc (s.read16 s.sp)

theorem opJumpIf_frame (cond : Cond) (a : Word) : CpuFrame s (opJumpIf cond a s) .none [] false true := by
  unfold opJumpIf
  split
  · exact opJump_frame s a
  · exact .refl s ..

theorem opCallIf_frame (cond : Cond) (a : Word) : CpuFrame s (opCallIf cond a s) .none [] true true := by
  unfold opCallIf
  split
  · exact opCall_frame s a
  · exact .refl s ..

theorem opRetIf_frame (cond : Cond) : CpuFrame s (opRetIf cond s) .none [] true true := by
  unfold opRetIf
  split
  · exact opRet_frame s
  · exact .refl s ..

theorem opPush_frame (rp : StackPair) : CpuFrame s (opPush rp s) .none [] true false :=
  (CpuFrame.refl s ..).push16 _

theorem opPop_frame (rp : StackPair) : CpuFrame s (opPop rp s) (.pop rp) rp.regs true false := by
  have popped (regs) : CpuFrame s s.pop16.2 .none regs true false := (CpuFrame.refl s ..).setSp (s.sp + 2)
  cases rp with
  | bc => exact (popped _).setPair (rp := .bc) (sp := true) _
  | de => exact (popped _).setPair (rp := .de) (sp := true) _
  | hl => exact (popped _).setPair (rp := .hl) (sp := true) _
  | psw =>
    have withA := (popped [.a]).setReg .a (hiByte s.pop16.1) (by decide)
    exact ⟨⟨trivial, trivial, trivial, trivial, trivial⟩, withA.reg, withA.sp, withA.pc⟩

theorem opXthl_frame : CpuFrame s (opXthl s) .none [.h, .l] false false :=
  (((CpuFrame.refl s ..).write _ _).write _ _).setPair (rp := .hl) (sp := false) _

theorem opIn_frame (port : Byte) : CpuFrame s (opIn port s) .none [.a] false false :=
  ((CpuFrame.refl s [.a] false false).sameCpu (t := s.afterIoRead port) rfl (fun _ => rfl) rfl rfl).setReg .a
    (s.ioAnswer port) (by decide)

/-! ### Every instruction -/

/-- Every instruction answers a next state, and between the two only the flags, registers, SP and PC change that
the tables name for it. -/
theorem exec_cpuFrame (i : Instr) : ∃ t, exec i s = .next t ∧
    CpuFrame s t (flagEffects i) (destRegs i) (writesSp i) (writesPc i) := by
  cases i with
  | movBB | movBC | movBD | movBE | movBH | movBL | movBM | movBA | movCB | movCC | movCD | movCE | movCH
  | movCL | movCM | movCA | movDB | movDC | movDD | movDE | movDH | movDL | movDM | movDA | movEB | movEC
  | movED | movEE | movEH | movEL | movEM | movEA | movHB | movHC | movHD | movHE | movHH | movHL | movHM
  | movHA | movLB | movLC | movLD | movLE | movLH | movLL | movLM | movLA | movMB | movMC | movMD | movME
  | movMH | movML | movMA | movAB | movAC | movAD | movAE | movAH | movAL | movAM | movAA =>
    exact ⟨_, rfl, opMov_frame ..⟩
  | mviB | mviC | mviD | mviE | mviH | mviL | mviM | mviA => exact ⟨_, rfl, opMvi_frame ..⟩
  | lxiB | lxiD | lxiH | lxiSp => exact ⟨_, rfl, opLxi_frame ..⟩
  | lda | ldaxB | ldaxD => exact ⟨_, rfl, opLoadA_frame ..⟩
  | sta | staxB | staxD => exact ⟨_, rfl, opStoreA_frame ..⟩
  | lhld => exact ⟨_, rfl, opLhld_frame ..⟩
  | shld => exact ⟨_, rfl, opShld_frame ..⟩
  | xchg => exact ⟨_, rfl, opXchg_frame ..⟩
  | addB | addC | addD | addE | addH | addL | addM | addA | adcB | adcC | adcD | adcE | adcH | adcL | adcM
  | adcA | adi | aci => exact ⟨_, rfl, opAdd_frame ..⟩
  | subB | subC | subD | subE | subH | subL | subM | subA | sbbB | sbbC | sbbD | sbbE | sbbH | sbbL | sbbM
  | sbbA | sui | sbi => exact ⟨_, rfl, opSub_frame ..⟩
  | anaB | anaC | anaD | anaE | anaH | anaL | anaM | anaA | ani => exact ⟨_, rfl, opAna_frame ..⟩
  | xraB | xraC | xraD | xraE | xraH | xraL | xraM | xraA | xri | oraB | oraC | oraD | oraE | oraH | oraL
  | oraM | oraA | ori => exact ⟨_, rfl, putLogic_frame ..⟩
  | cmpB | cmpC | cmpD | cmpE | cmpH | cmpL | cmpM | cmpA | cpi => exact ⟨_, rfl, opCmp_frame ..⟩
  | inrB | inrC | inrD | inrE | inrH | inrL | inrM | inrA => exact ⟨_, rfl, opInr_frame ..⟩
  | dcrB | dcrC | dcrD | dcrE | dcrH | dcrL | dcrM | dcrA => exact ⟨_, rfl, opDcr_frame ..⟩
  | inxB | inxD | inxH | inxSp => exact ⟨_, rfl, opInx_frame ..⟩
  | dcxB | dcxD | dcxH | dcxSp => exact ⟨_, rfl, opDcx_frame ..⟩
  | dadB | dadD | dadH | dadSp => exact ⟨_, rfl, opDad_frame ..⟩
  | daa => exact ⟨_, rfl, opDaa_frame ..⟩
  | rlc | rrc | ral | rar => exact ⟨_, rfl, rotate_frame ..⟩
  | cma => exact ⟨_, rfl, opCma_frame ..⟩
  | stc => exact ⟨_, rfl, putCy_frame (e := .set) s rfl⟩
  | cmc => exact ⟨_, rfl, putCy_frame (e := .fromResult) s trivial⟩
  | jmp | undefJmp | pchl => exact ⟨_, rfl, opJump_frame ..⟩
  | jnz | jz | jnc | jc | jpo | jpe | jp | jm => exact ⟨_, rfl, opJumpIf_frame ..⟩
  | call | undefCall | rst0 | rst1 | rst2 | rst3 | rst4 | rst5 | rst6 | rst7 =>
    exact ⟨_, rfl, opCall_frame ..⟩
  | cnz | cz | cnc | cc | cpo | cpe | cp | cm => exact ⟨_, rfl, opCallIf_frame ..⟩
  | ret | undefRet => exact ⟨_, rfl, opRet_frame ..⟩
  | rnz | rz | rnc | rc | rpo | rpe | rp | rm => exact ⟨_, rfl, opRetIf_frame ..⟩
  | pushB | pushD | pushH | pushPsw => exact ⟨_, rfl, opPush_frame ..⟩
  | popB | popD | popH | popPsw => exact ⟨_, rfl, opPop_frame ..⟩
  | xthl => exact ⟨_, rfl, opXthl_frame ..⟩
  | sphl => exact ⟨_, rfl, (CpuFrame.refl s ..).setSp s.hl⟩
  | inp => exact ⟨_, rfl, opIn_frame ..⟩
  | nop | undefNop => exact ⟨_, rfl, .refl s ..⟩
  | out | hlt | di | ei => exact ⟨_, rfl, (CpuFrame.refl s ..).sameCpu rfl (fun _ => rfl) rfl rfl⟩

end Operations

/-- The frame of an instruction that has answered `t`. -/
theorem cpuFrame_of_exec {i : Instr} {s t : State} (h : exec i s = .next t) :
    CpuFrame s t (flagEffects i) (destRegs i) (writesSp i) (writesPc i) := by
  obtain ⟨u, hu, hframe⟩ := exec_cpuFrame s i
  cases hu.symm.trans h
  exact hframe

/-- Settles O38: the flags are one part of the frame of an instruction, and a push keeps F. -/
theorem flagsChangeOnlyAsTheTableSays : Obligations.FlagsChangeOnlyAsTheTableSays :=
  ⟨fun _ _ _ h => (cpuFrame_of_exec h).flags, State.interruptEntry_f⟩

/-- Settles O40: the other parts of the frame of an instruction. -/
theorem registersChangeOnlyAsDestinations : Obligations.RegistersChangeOnlyAsDestinations := by
  intro i s t h
  have hframe := cpuFrame_of_exec h
  exact ⟨hframe.reg, hframe.sp, hframe.pc⟩

end Machine
end Sys2Proof
end

section
/-! SUPPORT. Pairs, the flag byte and the attachment of the ports (10_state.md R22, R27, R28, R40). -/

namespace Sys2Proof.Machine

/-- Settles O10: each pair is by definition the join of its registers; what is written reads back because
splitting a word and joining its bytes are inverse. -/
theorem pairsAreViewsOfTwoRegisters : Obligations.PairsAreViewsOfTwoRegisters := fun s v _ =>
  ⟨rfl, rfl, rfl, rfl, rfl, rfl, rfl, fun rp => s.pair_setPair_same rp v, rfl, rfl, rfl, rfl, rfl, rfl⟩

/-- The bits of a packed flag byte (R27): the fixed ones are pinned, and the others unpack to the flags. -/
theorem Flags.pack_layout (fl : Flags) :
    fl.pack.getLsbD 7 = fl.s ∧ fl.pack.getLsbD 6 = fl.z ∧ fl.pack.getLsbD 5 = false ∧
    fl.pack.getLsbD 4 = fl.ac ∧ fl.pack.getLsbD 3 = false ∧ fl.pack.getLsbD 2 = fl.p ∧
    fl.pack.getLsbD 1 = true ∧ fl.pack.getLsbD 0 = fl.cy := by
  have hflags := fl.unpack_pack
  obtain ⟨h5, h3, h1⟩ := fl.pinned_pack
  exact ⟨congrArg Flags.s hflags, congrArg Flags.z hflags, h5, congrArg Flags.ac hflags, h3,
    congrArg Flags.p hflags, h1, congrArg Flags.cy hflags⟩

/-- Settles O11: the layout of a packed byte, and packing what was unpacked is the pinning that every other
write of F applies. -/
theorem flagByteLayoutAndFixedBits : Obligations.FlagByteLayoutAndFixedBits :=
  ⟨Flags.pack_layout, fun s => ⟨rfl, Flags.pack_unpack s.f, fun _ => rfl, fun _ => rfl⟩⟩

/-! ### Attaching the ports -/

section Attach

variable {s : State} {rest : List HostMove}

/-- A listed move is the next step. -/
theorem step_of_host {m : HostMove} (h : s.host = m :: rest) : step s = hostMove m { s with host := rest } := by
  rw [step, h]

theorem step_attachMemory_some {cells : List Host.Cell} (h : s.host = .attachMemory (some cells) :: rest)
    (hr : s.runState ≠ .running) :
    step s = .next { s with host := rest, mem := Memory.ofCells cells, memAttached := true }.becomeReady :=
  (step_of_host h).trans (if_neg hr)

theorem step_attachMemory_none (h : s.host = .attachMemory none :: rest) (hr : s.runState ≠ .running) :
    step s = .next { s with host := rest } :=
  (step_of_host h).trans (if_neg hr)

theorem step_attachIo_true (h : s.host = .attachIo true :: rest) (hr : s.runState ≠ .running) :
    step s = .next { s with host := rest, ioAttached := true }.becomeReady :=
  (step_of_host h).trans (if_neg hr)

theorem step_attachIo_false (h : s.host = .attachIo false :: rest) (hr : s.runState ≠ .running) :
    step s = .next { s with host := rest } :=
  (step_of_host h).trans (if_neg hr)

/-- Both ports make an Idle block Ready (R40). -/
theorem becomeReady_ready (hr : s.runState = .idle) (hm : s.memAttached = true) (hi : s.ioAttached = true) :
    s.becomeReady.runState = .ready :=
  if_pos ⟨hr, hm, hi⟩

/-- One port leaves an Idle block Idle (R40). -/
theorem becomeReady_idle (hr : s.runState = .idle) (h : ¬(s.memAttached = true ∧ s.ioAttached = true)) :
    s.becomeReady.runState = .idle :=
  (if_neg fun hc => h hc.2).trans hr

/-- An Idle block is not Running. -/
theorem not_running_of_idle (hr : s.runState = .idle) : s.runState ≠ .running := by simp [hr]

end Attach

/-- Settles O53: the first attachment leaves the block Idle, so the second finds it Idle with the other port
attached and makes it Ready. -/
theorem attachingBothPortsMakesTheBlockReady : Obligations.AttachingBothPortsMakesTheBlockReady := by
  intro s cells rest hr hm hi
  have hstop := not_running_of_idle hr
  refine ⟨fun h => ?memoryFirst, fun h => ?ioFirst, ?empty⟩
  case memoryFirst =>
    have hfirst := step_attachMemory_some h hstop
    have hidle := becomeReady_idle (s := { s with
      host := .attachIo true :: rest, mem := Memory.ofCells cells, memAttached := true }) hr (by simp [hi])
    exact ⟨_, _, hfirst, hidle, step_attachIo_true rfl (not_running_of_idle hidle),
      becomeReady_ready hidle rfl rfl, rfl⟩
  case ioFirst =>
    have hfirst := step_attachIo_true h hstop
    have hidle := becomeReady_idle (s := { s with
      host := .attachMemory (some cells) :: rest, ioAttached := true }) hr (by simp [hm])
    exact ⟨_, _, hfirst, hidle, step_attachMemory_some rfl (not_running_of_idle hidle),
      becomeReady_ready hidle rfl rfl, rfl⟩
  case empty =>
    rintro (h | h)
    · exact step_attachMemory_none h hstop
    · exact step_attachIo_false h hstop

end Sys2Proof.Machine
end

section
/-! SUPPORT. Memory (20_memory.md R60 to R70): what plain RAM reads back after a byte, a word and a push, the
bytes of a fetch, and the bytes an instruction may change. -/

namespace Sys2Proof.Machine

/-! ### Plain RAM -/

section Ram

variable {s : State} (hram : s.params.memPort = .ram)

include hram

/-- Over plain RAM `Read16` joins the two stored bytes (R63). -/
theorem State.read16_ram (a : Word) : s.read16 a = joinBytes (s.mem.read (a + 1)) (s.mem.read a) := by
  rw [State.read16, s.read_ram hram, s.read_ram hram]

/-- `Read16` gives back the word that `Write16` wrote (R64). -/
theorem State.read16_write16 (hm : s.MemCanonical) (a v : Word) : (s.write16 a v).read16 a = v := by
  rw [State.read16_ram (s := s.write16 a v) hram, State.write16_high hm, State.write16_low hm, joinBytes_hi_lo]

/-- `Read16` at the SP that `Push16` leaves gives the pushed word (R65). -/
theorem State.read16_push16 (hm : s.MemCanonical) (v : Word) : (s.push16 v).read16 (s.push16 v).sp = v := by
  have hnext : s.sp - 2 + 1 = s.sp - 1 := by bv_omega
  rw [State.read16_ram (s := s.push16 v) hram, s.push16_sp, hnext, s.push16_high hm, s.push16_low hm,
    joinBytes_hi_lo]

/-- `Pop16` gives the pushed word and restores SP (R66). -/
theorem State.pop16_push16 (hm : s.MemCanonical) (v : Word) :
    (s.push16 v).pop16 = (v, { s.push16 v with sp := s.sp }) := by
  have hback : (s.push16 v).sp + 2 = s.sp := by rw [s.push16_sp, BitVec.sub_add_cancel]
  rw [State.pop16, State.read16_push16 hram hm, hback]

end Ram

/-- Settles O6: over plain RAM every read is of the stored bytes, of which a write changes one. -/
theorem ramReadGivesTheLastByteWritten : Obligations.RamReadGivesTheLastByteWritten := by
  intro s acc a x v hram hm
  have hbefore : s.read acc x = s.mem.read x := s.read_ram hram acc x
  have hafter (y : Word) : (s.write a v).read acc y = (s.mem.write a v).read y :=
    (s.write a v).read_ram hram acc y
  refine ⟨hbefore, ?same, fun hne => ?other, rfl⟩
  case same => rw [hafter, Memory.read_write_same hm]
  case other => rw [hafter, Memory.read_write_other s.mem v hne, hbefore]

/-- Settles O8: a 16-bit access is by definition two byte accesses; the second write leaves the byte of the
first, since the two addresses differ. -/
theorem sixteenBitAccessIsLittleEndian : Obligations.SixteenBitAccessIsLittleEndian := fun s a v =>
  ⟨rfl, rfl, s.write16_frame a v, fun hm => ⟨State.write16_low hm a v, State.write16_high hm a v,
    fun hram => ⟨State.read16_ram hram a, State.read16_write16 hram hm a v⟩⟩⟩

/-- Settles O9: a push leaves the word at the new SP, where the pop reads it. -/
theorem popReturnsThePushedWord : Obligations.PopReturnsThePushedWord := fun s v =>
  ⟨rfl, s.push16_eq v, fun hm => State.push16_pushed hm v,
    fun hm hram => ⟨State.read16_push16 hram hm v, State.pop16_push16 hram hm v⟩⟩

/-- Settles O44: over plain RAM each of the three reads of a fetch is of the stored byte. -/
theorem fetchReadsTheBytesAtPc : Obligations.FetchReadsTheBytesAtPc := by
  intro s hram
  simp only [fetchBytes, s.read_ram hram]

/-! ### The bytes an instruction may change (R70) -/

theorem SameBytesBut.of_eq {stored : List Word} {m m' : Memory} (h : m' = m) : SameBytesBut stored m m' :=
  fun x _ => congrArg (·.read x) h

section Stores

variable (s : State)

@[simp] theorem opJumpIf_mem (cond : Cond) (a : Word) : (opJumpIf cond a s).mem = s.mem := by
  unfold opJumpIf
  split <;> rfl

@[simp] theorem opRetIf_mem (cond : Cond) : (opRetIf cond s).mem = s.mem := by
  unfold opRetIf
  split <;> rfl

/-- A conditional call stores the return address when it is taken, and nothing else. -/
theorem opCallIf_sameBytes (cond : Cond) (a : Word) :
    SameBytesBut (if condHolds cond s.flags then [s.sp - 1, s.sp - 2] else []) s.mem (opCallIf cond a s).mem := by
  unfold opCallIf
  split
  · exact s.push16_frame s.pc
  · exact .refl [] s.mem

/-- Every instruction answers a next state, and between the two only the bytes change that the table of R70 names
for it: those of one store, of a 16-bit store or of a push. The instructions that name no case here write
registers, flags or control state alone, and jumps and returns do so on both paths. -/
theorem exec_sameBytes (i : Instr) : ∃ t, exec i s = .next t ∧ SameBytesBut (storeAddrs i s) s.mem t.mem := by
  cases i with
  | movMB | movMC | movMD | movME | movMH | movML | movMA | mviM | inrM | dcrM | sta | staxB | staxD =>
    exact ⟨_, rfl, s.write_frame _ _⟩
  | shld | xthl => exact ⟨_, rfl, s.write16_frame _ _⟩
  | pushB | pushD | pushH | pushPsw | call | undefCall | rst0 | rst1 | rst2 | rst3 | rst4 | rst5 | rst6 | rst7 =>
    exact ⟨_, rfl, s.push16_frame _⟩
  | cnz | cz | cnc | cc | cpo | cpe | cp | cm => exact ⟨_, rfl, opCallIf_sameBytes s _ _⟩
  | jnz | jz | jnc | jc | jpo | jpe | jp | jm => exact ⟨_, rfl, .of_eq (opJumpIf_mem ..)⟩
  | rnz | rz | rnc | rc | rpo | rpe | rp | rm => exact ⟨_, rfl, .of_eq (opRetIf_mem ..)⟩
  | _ => exact ⟨_, rfl, .refl [] s.mem⟩

end Stores

/-- Settles O39: the answer of an instruction is the one whose stores `exec_sameBytes` lists. -/
theorem memoryChangesOnlyAtTheStoredAddresses : Obligations.MemoryChangesOnlyAtTheStoredAddresses := by
  intro i s t h
  obtain ⟨u, hu, hbytes⟩ := exec_sameBytes s i
  cases hu.symm.trans h
  exact hbytes

end Sys2Proof.Machine
end

section
/-! SUPPORT. Lengths and conditions (30_encoding.md R92, R98): the opcode bytes of each length, how many bytes the
decoder uses up, and the bit of F that a condition tests. -/

namespace Sys2Proof

/-- From three bytes or more the decoder takes one instruction, and uses up as many bytes as its opcode byte
says (R92). -/
theorem decode_uses_opcodeLength (op b2 b3 : Byte) (rest : List Byte) :
    ∃ i, decode (op :: b2 :: b3 :: rest) = .ok (i, (op :: b2 :: b3 :: rest).drop (opcodeLength op)) := by
  obtain hlen | hlen | hlen := opcodeLength_cases op
  · exact ⟨decodeOpcode op 0 0, by simp only [decode, hlen, List.drop_succ_cons, List.drop_zero]⟩
  · exact ⟨decodeOpcode op b2 0, by simp only [decode, hlen, List.drop_succ_cons, List.drop_zero]⟩
  · exact ⟨decodeOpcode op b2 b3, by simp only [decode, hlen, List.drop_succ_cons, List.drop_zero]⟩

/-- The length of an opcode byte by membership in the two lists of R92. -/
theorem opcodeLength_eq (op : Byte) :
    opcodeLength op = if op ∈ twoByteOpcodes then 2 else if op ∈ threeByteOpcodes then 3 else 1 := by
  simp only [opcodeLength, List.contains_iff_mem]

/-- Settles O4: the two lists of the model are those of R92, and the decoder goes by the length alone. -/
theorem lengthFollowsFromTheOpcodeByte : Obligations.LengthFollowsFromTheOpcodeByte :=
  ⟨opcodeLength_eq, fun op b2 b3 => decode_uses_opcodeLength op b2 b3 []⟩

/-- Every code names the condition it is the code of (R98). -/
@[simp] theorem codeOfCond_condOfCode : ∀ code : BitVec 3, codeOfCond (condOfCode code) = code := by decide

namespace Machine

/-- Settles O5: a condition is its flag or the negation of it, and a flag of the state is by definition its bit
of F. -/
theorem conditionsTestTheirFlag : Obligations.ConditionsTestTheirFlag := by
  refine ⟨codeOfCond_condOfCode, rfl, fun s => ?flags⟩
  case flags =>
    have hclear (bit : Bool) : (!bit) = true ↔ bit = false := (Bool.not_eq_true' bit).to_iff
    exact ⟨hclear s.flags.z, .rfl, hclear s.flags.cy, .rfl, hclear s.flags.p, .rfl, hclear s.flags.s, .rfl⟩

end Machine
end Sys2Proof
end

section
/-! SUPPORT. Data transfer (40_data_transfer.md R130 to R142): one equation for the bytes of MOV and of MVI, what
an instruction does whose whole effect is one register or one stored byte, and the pair transfers. -/

namespace Sys2Proof

/-! ### Encodings -/

/-- MOV is `01 ddd sss` (R130 to R132); M to M, which is HLT, has the byte of that form too (R102). -/
theorem encode_ofMov (d src : Loc) :
    encode (.ofMov d src) = [(0b01#2 ++ codeOfLoc d ++ codeOfLoc src : BitVec 8)] := by
  cases d with
  | m =>
    cases src with
    | m => rfl
    | reg r => cases r <;> rfl
  | reg q =>
    cases src with
    | m => cases q <;> rfl
    | reg r => cases q <;> cases r <;> rfl

/-- MVI is `00 ddd 110` and its operand (R133, R134). -/
theorem encode_ofMvi (d : Loc) (imm8 : Byte) :
    encode (.ofMvi d imm8) = [(0b00#2 ++ codeOfLoc d ++ 0b110#3 : BitVec 8), imm8] := by
  cases d with
  | m => rfl
  | reg r => cases r <;> rfl

namespace Machine

/-! ### Instructions that write one register or store one byte -/

section OneWrite

variable {s : State} {i : Instr}

theorem State.onlyReg_setReg (s : State) (dst : Reg) (v : Byte) : OnlyReg dst s (s.setReg dst v) :=
  ⟨by cases dst <;> rfl, fun _ hne => s.reg_setReg_other v hne⟩

/-- An instruction whose whole effect is the write of a register. -/
theorem onlyReg_of_exec {dst : Reg} {v : Byte} (h : exec i s = .next (s.setReg dst v)) :
    ∃ t, exec i s = .next t ∧ t.reg dst = v ∧ OnlyReg dst s t :=
  ⟨_, h, s.reg_setReg_same dst v, s.onlyReg_setReg dst v⟩

/-- An instruction whose whole effect is the store of a byte. -/
theorem onlyByte_of_exec {a : Word} {v : Byte} (h : exec i s = .next (s.write a v)) :
    ∃ t, exec i s = .next t ∧ t = { s with mem := t.mem } ∧ (s.MemCanonical → t.mem.read a = v) ∧
      SameBytesBut [a] s.mem t.mem :=
  ⟨_, h, rfl, fun hm => Memory.read_write_same hm a v, s.write_frame a v⟩

end OneWrite

/-- Settles O13: each form is one write, of its destination register or of the byte at HL, and its operands
are read from the state before it. -/
theorem movAndMviWriteOneRegisterOrByte : Obligations.MovAndMviWriteOneRegisterOrByte := by
  refine ⟨fun s => ⟨fun dst src => ?movReg, fun dst => ?movFromM, fun src => ?movToM⟩,
    fun s imm8 => ⟨fun dst => ?mviReg, ?mviM⟩⟩
  case movReg => exact ⟨encode_ofMov .., onlyReg_of_exec (exec_ofMov_reg s dst (.reg src))⟩
  case movFromM => exact ⟨encode_ofMov .., onlyReg_of_exec (exec_ofMov_reg s dst .m)⟩
  case movToM => exact ⟨encode_ofMov .., onlyByte_of_exec (exec_ofMov_m s src)⟩
  case mviReg => exact ⟨encode_ofMvi .., onlyReg_of_exec (exec_ofMvi s (.reg dst) imm8)⟩
  case mviM => exact ⟨encode_ofMvi .m imm8, onlyByte_of_exec (exec_ofMvi s .m imm8)⟩

/-! ### Pair transfers -/

/-- LHLD splits the word it has read into the two bytes it has read (R138). -/
theorem opLhld_eq (s : State) (addr : Word) :
    opLhld addr s = { s with l := s.read .data1 addr, h := s.read .data2 (addr + 1) } := by
  simp only [opLhld, State.setPair, State.read16, hiByte_joinBytes, loByte_joinBytes]

/-- SHLD stores L at its address (R139). -/
theorem opShld_low {s : State} (hm : s.MemCanonical) (addr : Word) : (opShld addr s).mem.read addr = s.l :=
  (State.write16_low hm addr s.hl).trans (loByte_joinBytes s.h s.l)

/-- SHLD stores H at the next address (R139). -/
theorem opShld_high {s : State} (hm : s.MemCanonical) (addr : Word) : (opShld addr s).mem.read (addr + 1) = s.h :=
  (State.write16_high hm addr s.hl).trans (hiByte_joinBytes s.h s.l)

/-- XCHG twice restores both pairs (R142). -/
theorem opXchg_opXchg (s : State) : opXchg (opXchg s) = s := rfl

/-- Settles O14: LXI and XCHG are by definition the register writes that the rules state; LHLD and SHLD go
through HL as a word, which splits into the bytes it was joined from. -/
theorem pairTransfers : Obligations.PairTransfers := by
  refine ⟨fun s imm16 => ?lxi, fun s addr => ?lhld, fun s addr => ?shld, fun s => ?xchg⟩
  case lxi =>
    exact ⟨rfl, rfl, rfl, rfl, exec_ofLxi s .bc imm16, exec_ofLxi s .de imm16, exec_ofLxi s .hl imm16,
      exec_ofLxi s .sp imm16⟩
  case lhld => exact ⟨rfl, congrArg _ (opLhld_eq s addr)⟩
  case shld =>
    exact ⟨rfl, opShld addr s, rfl, rfl, fun hm => ⟨opShld_low hm addr, opShld_high hm addr⟩,
      s.write16_frame addr s.hl⟩
  case xchg => exact ⟨rfl, opXchg s, rfl, rfl, rfl, rfl, congrArg _ (opXchg_opXchg s)⟩

/-! ### The accumulator -/

/-- Settles O15: LDA and LDAX are one load of A, STA and STAX one store of A, at their own addresses. -/
theorem ldaLdaxStaAndStaxMoveTheAccumulator : Obligations.LdaLdaxStaAndStaxMoveTheAccumulator := by
  refine ⟨fun s addr => ?load, fun s addr => ⟨rfl, rfl, rfl, fun i a hform => ?store⟩⟩
  case load => exact ⟨rfl, rfl, rfl, rfl, exec_ofLdax s .bc, exec_ofLdax s .de⟩
  case store =>
    obtain ⟨rfl, rfl⟩ | ⟨rfl, rfl⟩ | ⟨rfl, rfl⟩ := hform
    · exact onlyByte_of_exec rfl
    · exact onlyByte_of_exec (exec_ofStax s .bc)
    · exact onlyByte_of_exec (exec_ofStax s .de)

end Machine
end Sys2Proof
end

section
/-! SUPPORT. Arithmetic (41_arithmetic.md R170 to R192): one equation for the bytes of each family, one for the
state that each shared operation answers, and decimal digits under ADD, ADC and DAA. -/

namespace Sys2Proof

/-! ### Encodings -/

/-- The register and M forms of the ALU are `10 alu sss` (R103). -/
theorem encode_ofAlu (alu : BitVec 3) (x : Loc) :
    encode (.ofAlu (aluOfCode alu) x) = [(0b10#2 ++ alu ++ codeOfLoc x : BitVec 8)] := by
  match alu with
  | 0#3 | 1#3 | 2#3 | 3#3 | 4#3 | 5#3 | 6#3 | 7#3 =>
    cases x with
    | m => rfl
    | reg r => cases r <;> rfl

/-- INR is `00 ddd 100` (R185, R186). -/
theorem encode_ofInr (d : Loc) : encode (.ofInr d) = [(0b00#2 ++ codeOfLoc d ++ 0b100#3 : BitVec 8)] := by
  cases d with
  | m => rfl
  | reg r => cases r <;> rfl

/-- DCR is `00 ddd 101` (R187, R188). -/
theorem encode_ofDcr (d : Loc) : encode (.ofDcr d) = [(0b00#2 ++ codeOfLoc d ++ 0b101#3 : BitVec 8)] := by
  cases d with
  | m => rfl
  | reg r => cases r <;> rfl

/-- INX is `00 rp 0011` (R189). -/
theorem encode_ofInx (rp : Pair) : encode (.ofInx rp) = [(0b00#2 ++ codeOfPair rp ++ 0b0011#4 : BitVec 8)] := by
  cases rp <;> rfl

/-- DCX is `00 rp 1011` (R190). -/
theorem encode_ofDcx (rp : Pair) : encode (.ofDcx rp) = [(0b00#2 ++ codeOfPair rp ++ 0b1011#4 : BitVec 8)] := by
  cases rp <;> rfl

/-- DAD is `00 rp 1001` (R191). -/
theorem encode_ofDad (rp : Pair) : encode (.ofDad rp) = [(0b00#2 ++ codeOfPair rp ++ 0b1001#4 : BitVec 8)] := by
  cases rp <;> rfl

namespace Machine

/-! ### Flags of an 8-bit result -/

theorem countP_range_succ (p : Nat → Bool) (n : Nat) :
    (List.range (n + 1)).countP p = (List.range n).countP p + (p n).toNat := by
  rw [List.range_succ, List.countP_append, List.countP_singleton, Bool.toNat]
  cases p n <;> rfl

/-- `parity_even` counts the 1 bits one by one. -/
theorem parityEven_iff (v : Byte) :
    parityEven v = true ↔ (List.range 8).countP (fun k => v.getLsbD k) % 2 = 0 := by
  simp only [countP_range_succ, List.range_zero, List.countP_nil, Nat.zero_add, parityEven, beq_iff_eq]

/-- Settles O12: S, Z and the other flags by definition, P by counting the 1 bits. -/
theorem setSZPWritesSignZeroAndEvenParity : Obligations.SetSZPWritesSignZeroAndEvenParity := fun _ v =>
  ⟨rfl, decide_eq_true_iff, parityEven_iff v, rfl, rfl⟩

@[simp] theorem AluResult.flags_cy (r : AluResult) (fl : Flags) : (r.flags fl).cy = r.cy := rfl
@[simp] theorem AluResult.flags_ac (r : AluResult) (fl : Flags) : (r.flags fl).ac = r.ac := rfl

theorem add8_cy (a b : Byte) (c : Bool) : (add8 a b c).cy = decide (a.toNat + b.toNat + c.toNat > 255) := rfl

theorem add8_ac (a b : Byte) (c : Bool) :
    (add8 a b c).ac = decide (a.toNat % 16 + b.toNat % 16 + c.toNat > 15) := rfl

/-! ### ADD, ADC, SUB and SBB -/

section Accumulator

variable {s : State} {i : Instr} {v : Byte}

/-- ADD and ADC: the exact sum, and its carries out of bits 7 and 3 (R171). -/
theorem opAdd_eq (s : State) (v : Byte) (c : Bool) : opAdd v c s = { s with
    a := BitVec.ofNat 8 (s.a.toNat + v.toNat + c.toNat)
    f := flagByte (BitVec.ofNat 8 (s.a.toNat + v.toNat + c.toNat))
      (decide (s.a.toNat % 16 + v.toNat % 16 + c.toNat > 15))
      (decide (s.a.toNat + v.toNat + c.toNat > 255)) } := rfl

/-- SUB and SBB: the difference, the borrow, and AC as the low digits say (R172). -/
theorem opSub_eq (s : State) (v : Byte) (bw : Bool) : opSub v bw s = { s with
    a := s.a - v - BitVec.ofNat 8 bw.toNat
    f := flagByte (s.a - v - BitVec.ofNat 8 bw.toNat)
      (decide (s.a.toNat % 16 ≥ v.toNat % 16 + bw.toNat))
      (decide (s.a.toNat < v.toNat + bw.toNat)) } := by
  rw [opSub, sub8_eq]
  rfl

theorem AluForm.exec_add (h : AluForm .add s i v) : Machine.exec i s = .next (opAdd v false s) :=
  h.exec.trans (exec_ofAluImm s .add v)

theorem AluForm.exec_adc (h : AluForm .adc s i v) : Machine.exec i s = .next (opAdd v s.flags.cy s) :=
  h.exec.trans (exec_ofAluImm s .adc v)

theorem AluForm.exec_sub (h : AluForm .sub s i v) : Machine.exec i s = .next (opSub v false s) :=
  h.exec.trans (exec_ofAluImm s .sub v)

theorem AluForm.exec_sbb (h : AluForm .sbb s i v) : Machine.exec i s = .next (opSub v s.flags.cy s) :=
  h.exec.trans (exec_ofAluImm s .sbb v)

end Accumulator

/-- Settles O16: every form is the one addition, ADD without a carry-in. -/
theorem addAndAdcSetAccumulatorAndFlags : Obligations.AddAndAdcSetAccumulatorAndFlags := by
  refine ⟨⟨encode_ofAlu 0b000, fun _ => rfl, fun s i v h => ?add⟩,
    encode_ofAlu 0b001, fun _ => rfl, fun s i v h => ?adc⟩
  case add => exact h.exec_add.trans (congrArg _ (opAdd_eq s v false))
  case adc => exact h.exec_adc.trans (congrArg _ (opAdd_eq s v s.flags.cy))

/-- Settles O17: every form is the one subtraction, SUB without a borrow-in. -/
theorem subAndSbbSetBorrowAndAuxiliaryCarry : Obligations.SubAndSbbSetBorrowAndAuxiliaryCarry := by
  refine ⟨⟨encode_ofAlu 0b010, fun _ => rfl, fun s i v h => ?sub⟩,
    encode_ofAlu 0b011, fun _ => rfl, fun s i v h => ?sbb⟩
  case sub =>
    have hnoBorrow : s.a - v - BitVec.ofNat 8 false.toNat = s.a - v := BitVec.sub_zero _
    rw [h.exec_sub, opSub_eq, hnoBorrow]
    rfl
  case sbb => exact h.exec_sbb.trans (congrArg _ (opSub_eq s v s.flags.cy))

/-! ### INR and DCR -/

/-- The low digit carries into the high one exactly when it wraps to 0 (R185). -/
theorem add8_one (v : Byte) : add8 v 1 false =
    { res := v + 1, cy := decide (v = 255), ac := decide ((v + 1).toNat % 16 = 0) } := by
  have hone : (1 : Byte).toNat = 1 := rfl
  have hres : BitVec.ofNat 8 (v.toNat + 1) = v + 1 := by bv_omega
  have hcy : v.toNat + 1 > 255 ↔ v = 255 := by bv_omega
  have hac : v.toNat % 16 + 1 > 15 ↔ (v + 1).toNat % 16 = 0 := by
    rw [BitVec.toNat_add, hone]
    omega
  simp only [add8, hone, Bool.toNat_false, Nat.add_zero, Nat.one_mod, hres, hcy, hac]

/-- INR (R185, R186). -/
theorem opInr_eq (s : State) (d : Loc) : opInr d s = { s.setLoc d (s.loc d + 1) with
    f := flagByte (s.loc d + 1) (decide ((s.loc d + 1).toNat % 16 = 0)) s.flags.cy } := by
  rw [opInr, add8_one]
  rfl

/-- The low digit borrows from the high one exactly when it wraps to 15 (R187). -/
theorem sub8_one (v : Byte) : sub8 v 1 false =
    { res := v - 1, cy := decide (v = 0), ac := decide ((v - 1).toNat % 16 ≠ 15) } := by
  have hv := v.isLt
  have hone : (1 : Byte).toNat = 1 := rfl
  have hres : v - 1 - BitVec.ofNat 8 0 = v - 1 := BitVec.sub_zero _
  have hcy : v.toNat < 1 ↔ v = 0 := by bv_omega
  have hac : v.toNat % 16 ≥ 1 ↔ (v - 1).toNat % 16 ≠ 15 := by
    rw [BitVec.toNat_sub, hone]
    omega
  simp only [sub8_eq, hone, Bool.toNat_false, Nat.add_zero, Nat.one_mod, hres, hcy, hac]

/-- DCR (R187, R188). -/
theorem opDcr_eq (s : State) (d : Loc) : opDcr d s = { s.setLoc d (s.loc d - 1) with
    f := flagByte (s.loc d - 1) (decide ((s.loc d - 1).toNat % 16 ≠ 15)) s.flags.cy } := by
  rw [opDcr, sub8_one]
  rfl

section OneWriteAndFlags

variable {s : State} {i : Instr}

/-- An instruction whose whole effect is the write of a register and of F. -/
theorem onlyRegAndFlags_of_exec {r : Reg} {v f : Byte}
    (h : exec i s = .next { s.setReg r v with f := f }) :
    ∃ t, exec i s = .next t ∧ t.reg r = v ∧ t.f = f ∧ OnlyReg r { s with f := t.f } t := by
  have hswap : { s.setReg r v with f := f } = { s with f := f }.setReg r v := by cases r <;> rfl
  rw [hswap] at h
  refine ⟨_, h, State.reg_setReg_same _ r v, State.setReg_f _ r v, ?_⟩
  rw [State.setReg_f]
  exact State.onlyReg_setReg _ r v

/-- An instruction whose whole effect is the store of a byte and the write of F. -/
theorem onlyByteAndFlags_of_exec {a : Word} {v f : Byte}
    (h : exec i s = .next { s.write a v with f := f }) :
    ∃ t, exec i s = .next t ∧ (s.MemCanonical → t.mem.read a = v) ∧ t.f = f ∧
      t = { s with f := t.f, mem := t.mem } ∧ SameBytesBut [a] s.mem t.mem :=
  ⟨_, h, fun hm => Memory.read_write_same hm a v, rfl, rfl, s.write_frame a v⟩

end OneWriteAndFlags

/-- Settles O18: each form writes its operand and F. -/
theorem inrAndDcrKeepCarry : Obligations.InrAndDcrKeepCarry := by
  have hinr (s : State) (d : Loc) := (exec_ofInr s d).trans (congrArg _ (opInr_eq s d))
  have hdcr (s : State) (d : Loc) := (exec_ofDcr s d).trans (congrArg _ (opDcr_eq s d))
  exact ⟨fun s => ⟨fun r => ⟨encode_ofInr (.reg r), onlyRegAndFlags_of_exec (hinr s (.reg r))⟩,
      encode_ofInr .m, onlyByteAndFlags_of_exec (hinr s .m)⟩,
    fun s => ⟨fun r => ⟨encode_ofDcr (.reg r), onlyRegAndFlags_of_exec (hdcr s (.reg r))⟩,
      encode_ofDcr .m, onlyByteAndFlags_of_exec (hdcr s .m)⟩⟩

/-! ### INX, DCX and DAD -/

/-- Settles O19: INX and DCX are by definition one write of their pair. -/
theorem inxAndDcxStepThePairAndNoFlag : Obligations.InxAndDcxStepThePairAndNoFlag := fun s rp =>
  ⟨encode_ofInx rp, encode_ofDcx rp, exec_ofInx s rp, exec_ofDcx s rp, s.setPair_f rp _, s.setPair_f rp _⟩

/-- The flags after DAD (R191). -/
theorem opDad_flags (s : State) (rp : Pair) : (opDad rp s).flags =
    { s.flags with cy := decide (s.hl.toNat + (s.pair rp).toNat > 65535) } :=
  State.flags_of_pack _ (opDad_f s rp)

/-- Settles O20: DAD is a write of HL and of CY. -/
theorem dadAddsToHlAndSetsOnlyCarry : Obligations.DadAddsToHlAndSetsOnlyCarry := by
  intro s rp
  have hsum : (opDad rp s).pair .hl = s.pair .hl + s.pair rp := s.pair_setPair_same .hl _
  refine ⟨encode_ofDad rp, opDad rp s, exec_ofDad s rp, ?sum, opDad_flags s rp, ?frame⟩
  case sum => rw [hsum, BitVec.toNat_add]
  case frame =>
    rw [opDad_flags]
    rfl

/-! ### DAA -/

section Daa

variable (a : Byte) (fl : Flags)

theorem daaLow_eq : daaLow a fl = decide (fl.ac = true ∨ a.toNat % 16 > 9) := by
  simp [daaLow]

theorem daaHigh_eq : daaHigh a fl =
    decide (fl.cy = true ∨ a.toNat / 16 > 9 ∨ (a.toNat / 16 ≥ 9 ∧ a.toNat % 16 > 9)) := by
  simp [daaHigh, Bool.or_assoc]

/-- CY forces the high correction, so that CY after DAA says whether it was added (R192). -/
theorem daaHigh_or_cy : (daaHigh a fl || fl.cy) = daaHigh a fl := by
  cases h : fl.cy <;> simp [daaHigh, h]

/-- The two corrections have no bit in common, so that joining them is adding them. -/
theorem daaCorrection_toNat : (daaCorrection a fl).toNat =
    (if daaLow a fl then 0x06 else 0) + (if daaHigh a fl then 0x60 else 0) := by
  rw [daaCorrection]
  cases daaLow a fl <;> cases daaHigh a fl <;> rfl

end Daa

/-- DAA: the addition of the correction, and CY from the high one (R192). -/
theorem opDaa_eq (s : State) : opDaa s = { s with
    a := BitVec.ofNat 8 (s.a.toNat + (daaCorrection s.a s.flags).toNat)
    f := flagByte (BitVec.ofNat 8 (s.a.toNat + (daaCorrection s.a s.flags).toNat))
      (decide (s.a.toNat % 16 + (daaCorrection s.a s.flags).toNat % 16 > 15))
      (daaHigh s.a s.flags || s.flags.cy) } := rfl

/-- Settles O21: the model's tests and its correction, in the numbers of R192. -/
theorem daaAddsTheDecimalCorrection : Obligations.DaaAddsTheDecimalCorrection := by
  refine ⟨rfl, fun s => ?_⟩
  have hor (high cy : Bool) : (high || cy) = if high then true else cy := by cases high <;> rfl
  have hexec : exec .daa s = .next (opDaa s) := rfl
  rw [hexec, opDaa_eq, daaCorrection_toNat, hor, daaLow_eq, daaHigh_eq]

/-! ### DAA after a decimal addition -/

/-- The byte that holds a number below 100 as two decimal digits. -/
def bcd (n : Nat) : Byte := BitVec.ofNat 8 (n / 10 * 16 + n % 10)

theorem bcd_toNat {n : Nat} (h : n < 100) : (bcd n).toNat = n / 10 * 16 + n % 10 := by
  rw [bcd, BitVec.toNat_ofNat]
  omega

section DecimalSum

variable {x y : Nat} (hx : x < 100) (hy : y < 100) (c : Bool) (fl : Flags)

include hx hy

/-- After a decimal addition the low correction is due exactly when the low decimal digits carry. -/
theorem daaLow_add8_bcd : daaLow (add8 (bcd x) (bcd y) c).res ((add8 (bcd x) (bcd y) c).flags fl) =
    decide (x % 10 + y % 10 + c.toNat > 9) := by
  have hc := c.toNat_le
  rw [daaLow_eq]
  apply decide_eq_decide.2
  simp only [AluResult.flags_ac, add8_ac, add8_res_toNat, bcd_toNat hx, bcd_toNat hy, decide_eq_true_eq]
  omega

/-- After a decimal addition the high correction is due exactly when the sum passes 99. -/
theorem daaHigh_add8_bcd : daaHigh (add8 (bcd x) (bcd y) c).res ((add8 (bcd x) (bcd y) c).flags fl) =
    decide (x + y + c.toNat > 99) := by
  have hc := c.toNat_le
  rw [daaHigh_eq]
  apply decide_eq_decide.2
  simp only [AluResult.flags_cy, add8_cy, add8_res_toNat, bcd_toNat hx, bcd_toNat hy, decide_eq_true_eq]
  generalize hsum : x / 10 * 16 + x % 10 + (y / 10 * 16 + y % 10) + c.toNat = sum
  by_cases hcarry : sum > 255
  · -- CY is set, and a binary sum this large is one of decimal bytes past 99.
    omega
  · -- CY is clear, so that the digits tested are those of the sum itself.
    rw [Nat.mod_eq_of_lt (by omega)]
    omega

/-- The correction makes a decimal sum of a binary one. -/
theorem add8_bcd_add_daaCorrection :
    BitVec.ofNat 8 ((add8 (bcd x) (bcd y) c).res.toNat +
      (daaCorrection (add8 (bcd x) (bcd y) c).res ((add8 (bcd x) (bcd y) c).flags fl)).toNat) =
    bcd ((x + y + c.toNat) % 100) := by
  have hc := c.toNat_le
  apply BitVec.eq_of_toNat_eq
  rw [BitVec.toNat_ofNat, bcd_toNat (Nat.mod_lt _ (by decide)), daaCorrection_toNat, daaLow_add8_bcd hx hy,
    daaHigh_add8_bcd hx hy, add8_res_toNat, bcd_toNat hx, bcd_toNat hy]
  simp only [decide_eq_true_eq]
  split <;> split <;> omega

end DecimalSum

/-- DAA after an addition of decimal bytes. -/
theorem opDaa_opAdd_bcd {s : State} {x y : Nat} (hx : x < 100) (hy : y < 100) (hs : s.a = bcd x) (c : Bool) :
    (opDaa (opAdd (bcd y) c s)).a = bcd ((x + y + c.toNat) % 100) ∧
    (opDaa (opAdd (bcd y) c s)).flags.cy = decide (x + y + c.toNat > 99) := by
  have hflags : (opAdd (bcd y) c s).flags = (add8 (bcd x) (bcd y) c).flags s.flags :=
    State.flags_of_pack _ (hs ▸ opAdd_f s (bcd y) c)
  have ha : (opAdd (bcd y) c s).a = (add8 (bcd x) (bcd y) c).res := hs ▸ rfl
  constructor
  · rw [opDaa_eq, ha, hflags]
    exact add8_bcd_add_daaCorrection hx hy c s.flags
  · rw [State.flags_of_pack _ (opDaa_f _), daaHigh_or_cy, ha, hflags, daaHigh_add8_bcd hx hy]

/-- Settles O22: every form is the one addition, after which DAA gives the decimal sum. -/
theorem daaAfterDecimalAdditionGivesTheDecimalSum : Obligations.DaaAfterDecimalAdditionGivesTheDecimalSum := by
  intro s x y i v c hx hy ha hv hform
  obtain ⟨carry, hc, hexec⟩ : ∃ carry : Bool, c = carry.toNat ∧ exec i s = .next (opAdd v carry s) := by
    obtain ⟨h, hc⟩ | ⟨h, hc⟩ := hform
    · exact ⟨false, hc, h.exec_add⟩
    · exact ⟨s.flags.cy, hc, h.exec_adc⟩
  subst hc hv
  exact ⟨_, _, hexec, rfl, opDaa_opAdd_bcd hx hy ha carry⟩

end Machine
end Sys2Proof
end

section
/-! SUPPORT. Logic (42_logical.md R220 to R238): the state that each shared operation answers, and the shifts of
the rotates as rotations of 8 and of 9 bits. -/

namespace Sys2Proof
namespace Machine

/-! ### ANA, XRA, ORA and CMP -/

/-- ANA: AC is bit 3 of either operand (R220). -/
theorem opAna_eq (s : State) (v : Byte) : opAna v s = { s with
    a := s.a &&& v
    f := flagByte (s.a &&& v) (s.a.getLsbD 3 || v.getLsbD 3) false } := by
  rw [← BitVec.getLsbD_or]
  rfl

/-- XRA and ORA clear AC and CY (R223, R226). -/
theorem State.putLogic_eq (s : State) (res : Byte) :
    s.putLogic res = { s with a := res, f := flagByte res false false } := rfl

@[simp] theorem AluResult.flags_z (r : AluResult) (fl : Flags) : (r.flags fl).z = decide (r.res = 0) := rfl

/-- CMP is SUB without the write of A (R229). -/
theorem opCmp_eq (s : State) (v : Byte) : opCmp v s = { s with f := (opSub v false s).f } := rfl

theorem opCmp_flags (s : State) (v : Byte) : (opCmp v s).flags = (sub8 s.a v false).flags s.flags :=
  State.flags_of_pack _ (opCmp_f s v)

/-- A comparison finds a zero difference exactly between equal bytes (R229). -/
theorem opCmp_flags_z (s : State) (v : Byte) : (opCmp v s).flags.z = true ↔ s.a = v := by
  rw [opCmp_flags, AluResult.flags_z, sub8_eq, decide_eq_true_iff, Bool.toNat_false, BitVec.sub_zero, sub_eq_zero]

/-- A comparison borrows exactly when A is below the operand (R229). -/
theorem opCmp_flags_cy (s : State) (v : Byte) : (opCmp v s).flags.cy = true ↔ s.a.toNat < v.toNat := by
  rw [opCmp_flags, AluResult.flags_cy, sub8_eq, decide_eq_true_iff, Bool.toNat_false, Nat.add_zero]

section Forms

variable {s : State} {i : Instr} {v : Byte}

theorem AluForm.exec_ana (h : AluForm .ana s i v) : Machine.exec i s = .next (opAna v s) :=
  h.exec.trans (exec_ofAluImm s .ana v)

theorem AluForm.exec_xra (h : AluForm .xra s i v) : Machine.exec i s = .next (s.putLogic (s.a ^^^ v)) :=
  h.exec.trans (exec_ofAluImm s .xra v)

theorem AluForm.exec_ora (h : AluForm .ora s i v) : Machine.exec i s = .next (s.putLogic (s.a ||| v)) :=
  h.exec.trans (exec_ofAluImm s .ora v)

theorem AluForm.exec_cmp (h : AluForm .cmp s i v) : Machine.exec i s = .next (opCmp v s) :=
  h.exec.trans (exec_ofAluImm s .cmp v)

end Forms

/-- Settles O23: each form is the one operation on its operand. -/
theorem anaXraAndOraSetTheFlags : Obligations.AnaXraAndOraSetTheFlags := by
  refine ⟨⟨encode_ofAlu 0b100, fun _ => rfl, fun s i v h => ?ana⟩,
    encode_ofAlu 0b101, fun _ => rfl, encode_ofAlu 0b110, fun _ => rfl,
    fun s i v => ⟨fun h => ?xra, fun h => ?ora⟩⟩
  case ana => exact h.exec_ana.trans (congrArg _ (opAna_eq s v))
  case xra => exact h.exec_xra.trans (congrArg _ (s.putLogic_eq _))
  case ora => exact h.exec_ora.trans (congrArg _ (s.putLogic_eq _))

/-- Settles O24: CMP writes F as SUB leaves it, and its Z and CY come from the difference and the borrow. -/
theorem cmpSetsTheFlagsOfSubAndKeepsA : Obligations.CmpSetsTheFlagsOfSubAndKeepsA := by
  refine ⟨encode_ofAlu 0b111, fun _ => rfl, fun s i v h => ?_⟩
  have hsub : AluForm .sub s (.sui v) v := .inr rfl
  exact ⟨opCmp v s, opSub v false s, h.exec_cmp, hsub.exec_sub, opCmp_eq s v, opCmp_flags_z s v,
    opCmp_flags_cy s v⟩

/-! ### Rotates -/

section Rotate

variable (a : Byte) (cy : Bool)

/-- `A[6:0] ++ c`, bit by bit (R232, R234). -/
theorem getLsbD_shiftLeftIn (k : Nat) :
    (shiftLeftIn a cy).getLsbD k = if k = 0 then cy else decide (k - 1 < 7) && a.getLsbD (k - 1) := by
  have hconcat : shiftLeftIn a cy = (a.extractLsb' 0 7).concat cy := rfl
  rw [hconcat, BitVec.getLsbD_concat, BitVec.getLsbD_extractLsb', Nat.zero_add]

/-- `c ++ A[7:1]`, bit by bit (R233, R235). -/
theorem getLsbD_shiftRightIn (k : Nat) :
    (shiftRightIn cy a).getLsbD k = if k = 7 then cy else decide (k < 7) && a.getLsbD (1 + k) := by
  have hcons : shiftRightIn cy a = BitVec.cons cy (a.extractLsb' 1 7) := rfl
  rw [hcons, BitVec.getLsbD_cons, BitVec.getLsbD_extractLsb']

/-- The bit that leaves at the top comes in at the bottom (R232). -/
theorem shiftLeftIn_top : shiftLeftIn a (a.getLsbD 7) = a.rotateLeft 1 := by
  apply BitVec.eq_of_getLsbD_eq
  intro k hk
  rw [getLsbD_shiftLeftIn, BitVec.getLsbD_rotateLeft]
  cases k with
  | zero => rfl
  | succ k => simp [hk, Nat.lt_of_succ_lt_succ hk]

/-- The bit that leaves at the bottom comes in at the top (R233). -/
theorem shiftRightIn_bottom : shiftRightIn (a.getLsbD 0) a = a.rotateRight 1 := by
  apply BitVec.eq_of_getLsbD_eq
  intro k hk
  rw [getLsbD_shiftRightIn, BitVec.getLsbD_rotateRight]
  obtain hlow | rfl : k < 7 ∨ k = 7 := by omega
  · simp [hlow, hlow.ne]
  · rfl

/-- CY comes in at the bottom and takes the bit that leaves at the top (R234). -/
theorem cons_top_shiftLeftIn :
    BitVec.cons (a.getLsbD 7) (shiftLeftIn a cy) = (BitVec.cons cy a).rotateLeft 1 := by
  apply BitVec.eq_of_getLsbD_eq
  intro k hk
  simp only [BitVec.getLsbD_rotateLeft, BitVec.getLsbD_cons, getLsbD_shiftLeftIn]
  cases k with
  | zero => rfl
  | succ k =>
    obtain hlow | rfl : k < 7 ∨ k = 7 := by omega
    · have hk8 : k < 8 := by omega
      simp [hk, hlow, hlow.ne, hk8.ne]
    · simp

/-- CY comes in at the top and takes the bit that leaves at the bottom (R235). -/
theorem cons_bottom_shiftRightIn :
    BitVec.cons (a.getLsbD 0) (shiftRightIn cy a) = (BitVec.cons cy a).rotateRight 1 := by
  apply BitVec.eq_of_getLsbD_eq
  intro k hk
  simp only [BitVec.getLsbD_rotateRight, BitVec.getLsbD_cons, getLsbD_shiftRightIn]
  obtain hlow | rfl | rfl : k < 7 ∨ k = 7 ∨ k = 8 := by omega
  · have hk8 : k < 8 := by omega
    have hnext : 1 + k ≠ 8 := by omega
    simp [hlow, hk8, hnext, hlow.ne, hk8.ne]
  · simp
  · simp

end Rotate

/-- Settles O25: the rotates shift A and write CY, and the bits they shift are a rotation. -/
theorem rotatesComplementAndCarry : Obligations.RotatesComplementAndCarry := by
  refine ⟨⟨rfl, rfl, rfl, rfl, fun s => ⟨?rlc, ?rrc, ⟨opRal s, rfl, rfl, ?ral⟩, ⟨opRar s, rfl, rfl, ?rar⟩⟩⟩,
    rfl, rfl, rfl, fun s => ⟨rfl, rfl, rfl⟩⟩
  case rlc =>
    rw [← shiftLeftIn_top]
    rfl
  case rrc =>
    rw [← shiftRightIn_bottom]
    rfl
  case ral =>
    rw [State.flags_of_pack _ (opRal_f s)]
    exact ⟨rfl, rfl, cons_top_shiftLeftIn s.a s.flags.cy⟩
  case rar =>
    rw [State.flags_of_pack _ (opRar_f s)]
    exact ⟨rfl, rfl, cons_bottom_shiftRightIn s.a s.flags.cy⟩

end Machine
end Sys2Proof
end

section
/-! SUPPORT. Branches (43_branch.md R261 to R268): one equation for the bytes and one for the cycles of each
conditional family, both paths of each conditional operation, and the state that a call answers. -/

namespace Sys2Proof

/-! ### Encodings -/

section Encodings

variable (cond : Cond) (addr : Word)

/-- Jccc is `11 ccc 010` and its address (R262). -/
theorem encode_ofJccc : encode (.ofJccc cond addr)
    = [(0b11#2 ++ codeOfCond cond ++ 0b010#3 : BitVec 8), addr.extractLsb' 0 8, addr.extractLsb' 8 8] := by
  cases cond <;> rfl

/-- Cccc is `11 ccc 100` and its address (R264). -/
theorem encode_ofCccc : encode (.ofCccc cond addr)
    = [(0b11#2 ++ codeOfCond cond ++ 0b100#3 : BitVec 8), addr.extractLsb' 0 8, addr.extractLsb' 8 8] := by
  cases cond <;> rfl

/-- Rccc is `11 ccc 000` (R266). -/
theorem encode_ofRccc :
    encode (.ofRccc cond) = [(0b11#2 ++ codeOfCond cond ++ 0b000#3 : BitVec 8)] := by
  cases cond <;> rfl

/-- RST is `11 nnn 111` (R268). -/
theorem encode_ofRst (n : BitVec 3) : encode (.ofRst n) = [(0b11#2 ++ n ++ 0b111#3 : BitVec 8)] := by
  match n with
  | 0#3 | 1#3 | 2#3 | 3#3 | 4#3 | 5#3 | 6#3 | 7#3 => rfl

end Encodings

namespace Machine

section Paths

variable (s : State) (cond : Cond) (addr : Word)

/-! ### Cycles (R380) -/

theorem cycles_ofJccc : cycles (.ofJccc cond addr) s = 10 := by
  cases cond <;> rfl

theorem cycles_ofCccc : cycles (.ofCccc cond addr) s = if condHolds cond s.flags then 17 else 11 := by
  cases cond <;> rfl

theorem cycles_ofRccc : cycles (.ofRccc cond) s = if condHolds cond s.flags then 11 else 5 := by
  cases cond <;> rfl

/-! ### Both paths of a conditional operation -/

section Taken

variable {s cond} (h : condHolds cond s.flags = true)

include h

theorem opJumpIf_taken : opJumpIf cond addr s = opJump addr s := if_pos h

theorem opCallIf_taken : opCallIf cond addr s = opCall addr s := if_pos h

theorem opRetIf_taken : opRetIf cond s = opRet s := if_pos h

end Taken

section NotTaken

variable {s cond} (h : condHolds cond s.flags = false)

include h

theorem opJumpIf_notTaken : opJumpIf cond addr s = s := if_neg (ne_true_of_eq_false h)

theorem opCallIf_notTaken : opCallIf cond addr s = s := if_neg (ne_true_of_eq_false h)

theorem opRetIf_notTaken : opRetIf cond s = s := if_neg (ne_true_of_eq_false h)

end NotTaken

/-! ### Calls, restarts and returns -/

/-- A call changes PC, SP and memory only (R263). -/
theorem opCall_eq : opCall addr s = { s with pc := addr, sp := s.sp - 2, mem := (opCall addr s).mem } := by
  rw [opCall, s.push16_eq s.pc]

/-- A call pushes PC, the next-instruction address (R263). -/
theorem opCall_pushed (hm : s.MemCanonical) : Pushed s.pc s (opCall addr s) := State.push16_pushed hm s.pc

/-- A call changes no byte but the two that it pushes (R263). -/
theorem opCall_sameBytes : SameBytesBut [s.sp - 1, s.sp - 2] s.mem (opCall addr s).mem := s.push16_frame s.pc

/-- A return changes PC and SP only (R265). -/
theorem opRet_eq : opRet s = { s with
    pc := s.read .data2 (s.sp + 1) ++ s.read .data1 s.sp, sp := s.sp + 2 } := rfl

/-- The restart address of n is 8 times n, which no width cuts (R100). -/
theorem restartVector_eq (n : BitVec 3) : restartVector n = BitVec.ofNat 16 (n.toNat * 8) := by
  have hn := n.isLt
  rw [restartVector]
  bv_omega

end Paths

/-- Settles O26: a jump taken is the one write of PC, and a jump not taken is the state itself. -/
theorem jumpsSetPc : Obligations.JumpsSetPc := by
  intro s addr cond
  have hexec := exec_ofJccc s cond addr
  refine ⟨rfl, encode_ofJccc cond addr, rfl, rfl, fun h => ?taken, fun h => ?notTaken,
    cycles_ofJccc s cond addr, rfl⟩
  case taken => rw [hexec, opJumpIf_taken addr h, opJump]
  case notTaken => rw [hexec, opJumpIf_notTaken addr h]

/-- Settles O27: CALL, a Cccc taken and RST are the one call, at their own targets, and a call not taken is the
state itself. -/
theorem callsPushTheReturnAddress : Obligations.CallsPushTheReturnAddress := by
  intro s addr cond n
  refine ⟨rfl, encode_ofCccc cond addr, encode_ofRst n, fun i target hform => ?taken, fun h => ?notTaken,
    cycles_ofCccc s cond addr⟩
  case taken =>
    have hexec : exec i s = .next (opCall target s) := by
      obtain ⟨rfl, rfl⟩ | ⟨rfl, rfl, h⟩ | ⟨rfl, rfl⟩ := hform
      · rfl
      · rw [exec_ofCccc, opCallIf_taken target h]
      · rw [exec_ofRst, opRst, restartVector_eq]
    exact ⟨opCall target s, hexec, opCall_eq s target, opCall_pushed s target, opCall_sameBytes s target⟩
  case notTaken => rw [exec_ofCccc, opCallIf_notTaken addr h]

/-- Settles O28: RET and a Rccc taken are the one pop of PC, and a return not taken is the state itself. -/
theorem returnsPopPc : Obligations.ReturnsPopPc := by
  intro s cond
  refine ⟨rfl, encode_ofRccc cond, fun i hform => ?taken, fun h => ?notTaken, cycles_ofRccc s cond⟩
  case taken =>
    have hexec : exec i s = .next (opRet s) := by
      obtain rfl | ⟨rfl, h⟩ := hform
      · rfl
      · rw [exec_ofRccc, opRetIf_taken h]
    rw [hexec, opRet_eq]
  case notTaken => rw [exec_ofRccc, opRetIf_notTaken h]

end Machine
end Sys2Proof
end

section
/-! SUPPORT. Stack, input and output, control (44_stack_io_control.md R290 to R301): the bytes of PUSH and POP, the
state that each shared operation answers, and that a return undoes a call and a pop a push. -/

namespace Sys2Proof

/-! ### Encodings -/

/-- PUSH is `11 pp 0101` (R290, R291). -/
theorem encode_ofPush (rp : StackPair) :
    encode (.ofPush rp) = [(0b11#2 ++ codeOfStackPair rp ++ 0b0101#4 : BitVec 8)] := by
  cases rp <;> rfl

/-- POP is `11 pp 0001` (R292, R293). -/
theorem encode_ofPop (rp : StackPair) :
    encode (.ofPop rp) = [(0b11#2 ++ codeOfStackPair rp ++ 0b0001#4 : BitVec 8)] := by
  cases rp <;> rfl

namespace Machine

section Stack

variable (s : State) (rp : StackPair)

/-! ### PUSH -/

/-- A push changes SP and memory only (R290). -/
theorem opPush_eq : opPush rp s = { s with sp := s.sp - 2, mem := (opPush rp s).mem } :=
  s.push16_eq (s.stackPair rp)

/-- PUSH PSW leaves the flag byte at the new SP (R291). -/
theorem opPush_psw_low (hm : s.MemCanonical) : (opPush .psw s).mem.read (opPush .psw s).sp = s.f :=
  calc (opPush .psw s).mem.read (opPush .psw s).sp
    _ = (opPush .psw s).mem.read (s.sp - 2) := by rw [opPush, s.push16_sp]
    _ = loByte (s.stackPair .psw) := s.push16_low hm
    _ = s.f := loByte_joinBytes s.a s.f

/-! ### POP -/

/-- A pop moves SP and puts the two bytes from the stack into its pair (R292). -/
theorem opPop_eq : opPop rp s = { s with sp := s.sp + 2 }.setStackPair rp
    (joinBytes (s.read .data2 (s.sp + 1)) (s.read .data1 s.sp)) := rfl

/-- A byte with its fixed bits pinned is written to F as it is (R28). -/
theorem pinFlagByte_of_pinned :
    ∀ v : Byte, v.getLsbD 5 = false ∧ v.getLsbD 3 = false ∧ v.getLsbD 1 = true → pinFlagByte v = v := by
  decide +kernel

/-- A pair written back with its own value changes nothing, PSW included if its fixed bits are pinned. -/
theorem State.setStackPair_stackPair (hf : s.FlagsPinned) : s.setStackPair rp (s.stackPair rp) = s := by
  cases rp with
  | bc | de | hl =>
    simp only [State.setStackPair, State.stackPair, State.setPair, State.pair, hiByte_joinBytes, loByte_joinBytes]
  | psw =>
    simp only [State.setStackPair, State.stackPair, hiByte_joinBytes, loByte_joinBytes,
      pinFlagByte_of_pinned s.f hf]

/-- What a push pushes does not depend on memory. -/
theorem State.stackPair_setMem (m : Memory) : { s with mem := m }.stackPair rp = s.stackPair rp := by
  cases rp <;> rfl

/-! ### XTHL -/

/-- XTHL puts the two bytes from the stack into H and L and changes nothing else but memory (R294). -/
theorem opXthl_eq : opXthl s = { s with
    l := s.read .data1 s.sp, h := s.read .data2 (s.sp + 1), mem := (opXthl s).mem } := by
  simp only [opXthl, State.setPair, State.read16, hiByte_joinBytes, loByte_joinBytes]
  rfl

/-- XTHL stores HL as a 16-bit write at SP does (R294). -/
theorem opXthl_mem : (opXthl s).mem = (s.write16 s.sp s.hl).mem := State.setPair_mem ..

/-- XTHL stores the old L at SP (R294). -/
theorem opXthl_low (hm : s.MemCanonical) : (opXthl s).mem.read s.sp = s.l := by
  rw [opXthl_mem, State.write16_low hm, State.hl, loByte_joinBytes]

/-- XTHL stores the old H at SP + 1 (R294). -/
theorem opXthl_high (hm : s.MemCanonical) : (opXthl s).mem.read (s.sp + 1) = s.h := by
  rw [opXthl_mem, State.write16_high hm, State.hl, hiByte_joinBytes]

/-- XTHL changes no byte but the two at SP (R294). -/
theorem opXthl_sameBytes : SameBytesBut [s.sp, s.sp + 1] s.mem (opXthl s).mem := by
  rw [opXthl_mem]
  exact s.write16_frame s.sp s.hl

/-! ### What a pop undoes -/

section Ram

variable {s} (hram : s.params.memPort = .ram) (hm : s.MemCanonical)

include hram hm

/-- A return right after a push goes to the pushed address with SP restored. -/
theorem State.popPc_push16 (v : Word) : (s.push16 v).popPc = { s with pc := v, mem := (s.push16 v).mem } := by
  rw [State.popPc, State.pop16_push16 hram hm]
  rfl

/-- RET undoes CALL but for memory: it reads no PC, so the target of the call does not matter. -/
theorem opRet_opCall (addr : Word) : opRet (opCall addr s) = { s with mem := (opCall addr s).mem } :=
  State.popPc_push16 hram hm s.pc

/-- POP undoes PUSH of the same pair but for memory. -/
theorem opPop_opPush (hf : s.FlagsPinned) : opPop rp (opPush rp s) = { s with mem := (opPush rp s).mem } :=
  calc opPop rp (opPush rp s)
    _ = { s with mem := (opPush rp s).mem }.setStackPair rp (s.stackPair rp) := by
      rw [opPop, opPush, State.pop16_push16 hram hm]
      rfl
    _ = { s with mem := (opPush rp s).mem } := by
      rw [← s.stackPair_setMem rp (opPush rp s).mem]
      exact State.setStackPair_stackPair _ rp hf

end Ram

end Stack

/-- Settles O29: the pop of RET or POP PSW gives back the word that CALL or PUSH PSW pushed. -/
theorem retUndoesCallAndPopPswUndoesPushPsw : Obligations.RetUndoesCallAndPopPswUndoesPushPsw := by
  refine ⟨fun s addr hram hm => ?call, fun s hram hinv => ?psw⟩
  case call =>
    have hret := opRet_opCall hram hm addr
    refine ⟨opCall addr s, opRet (opCall addr s), rfl, rfl, hret, ?_⟩
    rw [hret]
    exact opCall_sameBytes s addr
  case psw =>
    exact ⟨opPush .psw s, opPop .psw (opPush .psw s), rfl, rfl,
      opPop_opPush .psw hram hinv.memCanonical hinv.flagsPinned⟩

/-- Settles O30: the four forms are one push, of their own pair; the low byte of PSW is F. -/
theorem pushStoresThePairBelowSp : Obligations.PushStoresThePairBelowSp := by
  intro s rp
  refine ⟨encode_ofPush rp, opPush rp s, exec_ofPush s rp, opPush_eq s rp, s.push16_frame (s.stackPair rp),
    fun hm => ?pushed, fun hm hf hpsw => ?fixedBits⟩
  case pushed => cases rp <;> exact State.push16_pushed hm _
  case fixedBits =>
    subst hpsw
    rw [opPush_psw_low s hm]
    exact hf

/-- Settles O32: XTHL is a 16-bit write and a write of HL, both of words read before; SPHL is one write of SP. -/
theorem xthlAndSphl : Obligations.XthlAndSphl := fun s =>
  ⟨rfl, rfl, ⟨opXthl s, rfl, opXthl_eq s, fun hm => ⟨opXthl_low s hm, opXthl_high s hm⟩, opXthl_sameBytes s⟩, rfl⟩

/-- Settles O31: the four forms are one pop, into their own pair, which takes the word apart into the two bytes it
was joined from. -/
theorem popLoadsThePairFromSp : Obligations.PopLoadsThePairFromSp := by
  intro s rp
  refine ⟨encode_ofPop rp, ?_⟩
  rw [exec_ofPop, opPop_eq]
  cases rp with
  | bc | de | hl => simp only [State.setStackPair, State.setPair, hiByte_joinBytes, loByte_joinBytes]
  | psw => simp only [State.setStackPair, hiByte_joinBytes, loByte_joinBytes, pinFlagByte]

/-! ### Input, output and control -/

/-- An answer listed by the host is the one that IN takes (R296). -/
theorem State.ioAnswer_of_listed {s : State} {x : Byte} {rest : List Byte} (h : s.ioAnswers = x :: rest)
    (port : Byte) : s.ioAnswer port = x := by
  rw [State.ioAnswer, h]

/-- Settles O33: IN takes `State.ioAnswer`; OUT is the one call on record. -/
theorem inTakesTheHostsAnswerAndOutGivesA : Obligations.InTakesTheHostsAnswerAndOutGivesA := fun s port =>
  ⟨rfl, rfl, ⟨s.ioAnswer port, rfl, fun _ _ h => State.ioAnswer_of_listed h port⟩, rfl⟩

/-- Settles O34: each of the four instructions is by definition the write that its rule states. -/
theorem machineControl : Obligations.MachineControl := ⟨rfl, rfl, rfl, rfl, fun _ => ⟨rfl, rfl, rfl, rfl⟩⟩

end Machine
end Sys2Proof
end

section
/-! SUPPORT. Undefined bytes and completion (45_undocumented.md R320 to R325, 60_exceptions.md R330, R340): the bytes
a fetch reads decode, an instruction completes, and so an iteration stops only where `UNDOC_MODE` refuses. -/

namespace Sys2Proof.Machine

/-- Settles O37: the answer is the one whose frame `exec_cpuFrame` states. -/
theorem everyInstructionCompletesInEveryState : Obligations.EveryInstructionCompletesInEveryState := by
  intro i s
  obtain ⟨t, hexec, -⟩ := exec_cpuFrame s i
  exact ⟨t, hexec⟩

/-- Settles O35: each undefined byte is by definition the one operation of its alias. -/
theorem undefinedBytesExecuteAsTheirAliases : Obligations.UndefinedBytesExecuteAsTheirAliases := by
  intro s ddd sel addr
  have hcall : ∃ t, exec (.undefCall sel addr) s = .next t ∧
      t = { s with pc := addr, sp := s.sp - 2, mem := t.mem } ∧ (s.MemCanonical → Pushed s.pc s t) :=
    ⟨opCall addr s, rfl, opCall_eq s addr, opCall_pushed s addr⟩
  exact ⟨rfl, rfl, rfl, rfl, rfl, rfl, congrArg Host.Outcome.next (opRet_eq s), hcall,
    rfl, rfl, rfl, rfl, rfl, rfl, rfl, rfl, rfl, rfl, rfl, rfl⟩

/-! ### The fetch -/

/-- The twelve undefined bytes (R320). -/
def undefinedOpcodes : List Byte :=
  [0x08, 0x10, 0x18, 0x20, 0x28, 0x30, 0x38, 0xCB, 0xD9, 0xDD, 0xED, 0xFD]

/-- An instruction with one of the twelve opcode bytes is of an undefined byte. -/
theorem isUndefined_of_opcode_mem {i : Instr} (h : opcode i ∈ undefinedOpcodes) : isUndefined i = true := by
  rw [← List.contains_iff_mem] at h
  cases i with
  | undefNop | undefJmp | undefRet | undefCall => rfl
  | _ => exact absurd h Bool.false_ne_true

/-- The bytes of a fetch are one instruction, whatever they are (R107, R111). -/
theorem decode_fetchBytes (s : State) : ∃ i, decode (fetchBytes s) = .ok (i, []) := by
  obtain hlen | hlen | hlen := opcodeLength_cases (s.read .opcode s.pc) <;>
    simp [fetchBytes, decode, hlen]

/-! ### One iteration -/

section Iteration

variable {s u : State} {sig : Signal} {i : Instr} {rest : List Byte}

/-- A fetch that `UNDOC_MODE` refuses ends the instruction (R325). -/
theorem executeOne_refused (hd : decode (fetchBytes s) = .ok (i, rest))
    (hu : s.params.undocMode = .refuse ∧ isUndefined i = true) :
    executeOne s = .refused (.undefinedOpcode (opcode i) s.pc) := by
  rw [executeOne, hd]
  exact if_pos hu

/-- An instruction that is not refused is its operation and the bookkeeping around it (R342). -/
theorem executeOne_of_exec (hd : decode (fetchBytes s) = .ok (i, rest))
    (hu : ¬(s.params.undocMode = .refuse ∧ isUndefined i = true))
    (hx : exec i (afterFetch i s) = .next u) : executeOne s = .next (retire (cycles i s) u) := by
  simp only [executeOne, hd, if_neg hu, hx]

/-- Without an accepted signal a block that is not halted runs one instruction (R340). -/
theorem iterationBody_eq_executeOne (ha : accepted sig s = none) (hh : s.halted = false) :
    iterationBody sig s = executeOne s := by
  rw [iterationBody, ha]
  exact if_neg (ne_true_of_eq_false hh)

/-- Unless a Quit ends it first, an iteration runs its body and then the termination test (R340). -/
theorem iteration_of_body (hq : ¬(sig = .quit ∧ s.params.quitOrder = .beforeStep))
    (hb : iterationBody sig s = .next u) : iteration sig s = .next (endIteration sig u) := by
  simp only [iteration, if_neg hq, hb]

/-- A refusal of the body is a refusal of the iteration. -/
theorem iteration_refused {r : Refusal} (hq : ¬(sig = .quit ∧ s.params.quitOrder = .beforeStep))
    (hb : iterationBody sig s = .refused r) : iteration sig s = .refused r := by
  simp only [iteration, if_neg hq, hb]

end Iteration

/-- Settles O36: the poll leaves the fetch to refuse, and its refusal is passed on. -/
theorem refuseModeRefusesUndefinedBytes : Obligations.RefuseModeRefusesUndefinedBytes := by
  intro s s' sig i rest hpoll haccepted hhalted hquit hmode hdecode _ hopcode
  have hrefused : executeOne s' = .refused (.undefinedOpcode (opcode i) s'.pc) :=
    executeOne_refused hdecode ⟨hmode, isUndefined_of_opcode_mem hopcode⟩
  calc step s
    _ = iteration sig s' := hpoll.step.1
    _ = .refused (.undefinedOpcode (opcode i) s'.pc) :=
      iteration_refused hquit ((iterationBody_eq_executeOne haccepted hhalted).trans hrefused)

/-! ### Completion under the alias policy -/

section Alias

variable {s : State} (halias : s.params.undocMode = .runAlias)

include halias

theorem executeOne_completes : ∃ t, executeOne s = .next t := by
  obtain ⟨i, hd⟩ := decode_fetchBytes s
  obtain ⟨u, hx⟩ := everyInstructionCompletesInEveryState i (afterFetch i s)
  exact ⟨_, executeOne_of_exec hd (by simp [halias]) hx⟩

theorem iterationBody_completes (sig : Signal) : ∃ t, iterationBody sig s = .next t := by
  unfold iterationBody
  split
  · exact ⟨_, rfl⟩
  · split
    · exact ⟨_, rfl⟩
    · exact executeOne_completes halias

theorem iteration_completes (sig : Signal) : ∃ t, iteration sig s = .next t := by
  by_cases hq : sig = .quit ∧ s.params.quitOrder = .beforeStep
  · exact ⟨_, if_pos hq⟩
  · obtain ⟨u, hb⟩ := iterationBody_completes halias sig
    exact ⟨_, iteration_of_body hq hb⟩

/-- During a run the host may answer a poll or touch a snapshot (R352). -/
theorem hostMove_completes_of_running {m : HostMove} (hr : s.runState = .running)
    (hturn : (∀ contents, m ≠ .attachMemory contents) ∧ (∀ ok, m ≠ .attachIo ok) ∧ ∀ start, m ≠ .run start) :
    ∃ t, hostMove m s = .next t := by
  obtain ⟨hmem, hio, hrun⟩ := hturn
  cases m with
  | answer sig =>
    obtain ⟨t, ht⟩ := iteration_completes halias sig
    exact ⟨t, (if_pos hr).trans ht⟩
  | attachMemory contents => exact absurd rfl (hmem contents)
  | attachIo ok => exact absurd rfl (hio ok)
  | run start => exact absurd rfl (hrun start)
  | snapshotSave => exact ⟨s, rfl⟩
  | snapshotLoad tagMatches snap => cases tagMatches <;> exact ⟨_, rfl⟩

end Alias

/-- Outside a run every move of the host is allowed (R352, R371). -/
theorem hostMove_completes_of_not_running {s : State} (hr : s.runState ≠ .running) (m : HostMove) :
    ∃ t, hostMove m s = .next t := by
  cases m with
  | answer sig => exact ⟨s, if_neg hr⟩
  | attachMemory contents => cases contents <;> exact ⟨_, if_neg hr⟩
  | attachIo ok => cases ok <;> exact ⟨_, if_neg hr⟩
  | run start =>
    rw [hostMove]
    cases h : s.runState with
    | idle | ready | stopped => exact ⟨_, rfl⟩
    | running => exact absurd h hr
  | snapshotSave => exact ⟨s, rfl⟩
  | snapshotLoad tagMatches snap => cases tagMatches <;> exact ⟨_, rfl⟩

/-- Settles O56: a running block completes its iteration or the snapshot move listed; any other block completes
every move. -/
theorem everyStepCompletesUnderTheAliasPolicy : Obligations.EveryStepCompletesUnderTheAliasPolicy := by
  intro s halias hturn
  by_cases hr : s.runState = .running
  · cases hhost : s.host with
    | nil =>
      obtain ⟨t, ht⟩ := iteration_completes halias s.pollAnswer
      exact ⟨t, by rw [step, hhost]; exact (if_pos hr).trans ht⟩
    | cons m rest =>
      rw [step_of_host hhost]
      exact hostMove_completes_of_running (s := { s with host := rest }) halias hr (hturn hr m rest hhost)
  · cases hhost : s.host with
    | nil => exact ⟨s, by rw [step, hhost]; exact if_neg hr⟩
    | cons m rest =>
      rw [step_of_host hhost]
      exact hostMove_completes_of_not_running (s := { s with host := rest }) hr m

end Sys2Proof.Machine
end

section
/-! SUPPORT. The loop (60_exceptions.md R330 to R344): how an iteration ends on each of its paths, what RUNSTATE is
after it, and why a step can stop. -/

namespace Sys2Proof.Machine

/-! ### The three paths of an iteration's body (R340) -/

section Body

variable {s : State} {sig : Signal}

/-- An accepted signal is taken at once (R341). -/
theorem iterationBody_of_accepted {n : BitVec 3} (ha : accepted sig s = some n) :
    iterationBody sig s = .next (s.interruptEntry n) := by
  rw [iterationBody, ha]

/-- Without an accepted signal a halted block idles (R343). -/
theorem iterationBody_of_halted (ha : accepted sig s = none) (hh : s.halted = true) :
    iterationBody sig s = .next (haltedIdle s) := by
  rw [iterationBody, ha]
  exact if_pos hh

end Body

/-- The end of an iteration moves RUNSTATE as R344 says and nothing else but the iteration number. -/
theorem endIteration_eq (sig : Signal) (t : State) : endIteration sig t =
    { t with iteration := t.iteration + 1, runState := runStateAfter sig t.params t.pc t.runState } := rfl

/-! ### Taking an interrupt and discarding one (R334, R341) -/

section Interrupt

variable (s : State) (n : BitVec 3)

/-- No RST is a Quit. -/
theorem rst_not_quit (order : QuitOrder) : ¬(Signal.rst n = .quit ∧ order = .beforeStep) :=
  fun h => nomatch h.1

/-- The whole of `InterruptEntry(n)`: PC is pushed and replaced by 8n, IE and HALTED are cleared, 11 cycles. -/
theorem State.interruptEntry_eq : s.interruptEntry n = { s with
    pc := BitVec.ofNat 16 (n.toNat * 8), sp := s.sp - 2, mem := (s.push16 s.pc).mem, ie := false
    halted := false, cycles := s.cycles + 11 } := by
  rw [State.interruptEntry, s.push16_eq s.pc, restartVector_eq]

/-- An RST that is not accepted is no different from no interrupt. -/
theorem iteration_rst_of_not_accepted {s : State} (ha : accepted (.rst n) s = none) :
    iteration (.rst n) s = iteration .noInterrupt s := by
  have hbody : iterationBody (.rst n) s = iterationBody .noInterrupt s := by
    rw [iterationBody, ha]
    rfl
  have hend (t : State) : endIteration (.rst n) t = endIteration .noInterrupt t := by simp [endIteration]
  simp [iteration, hbody, hend]

end Interrupt

/-- Settles O45: the RST is no Quit and is accepted, so the iteration is the interrupt entry, a push of PC, and the
termination test. -/
theorem acceptedInterruptEntersItsVector : Obligations.AcceptedInterruptEntersItsVector := by
  intro s s' n hpoll hie hinhibit
  obtain ⟨hstep, hrunning⟩ := hpoll.step
  have haccepted : accepted (.rst n) s' = some n := accepted_eq_some.2 ⟨rfl, hie, hinhibit⟩
  refine ⟨endIteration (.rst n) (s'.interruptEntry n), ?next, ?state, fun hm => ?pushed, ?frame⟩
  case next =>
    exact hstep.trans (iteration_of_body (rst_not_quit n _) (iterationBody_of_accepted haccepted))
  case state => rw [endIteration_eq, s'.interruptEntry_eq, hrunning]
  case pushed => exact State.push16_pushed hm s'.pc
  case frame => exact s'.push16_frame s'.pc

/-- Settles O46: the signal is not accepted, and an iteration depends on such an RST no further. -/
theorem unacceptedInterruptIsDiscarded : Obligations.UnacceptedInterruptIsDiscarded := by
  intro s s' n hpoll hclosed
  obtain ⟨hstep, hrunning⟩ := hpoll.step
  have haccepted : accepted (.rst n) s' = none := accepted_eq_none.2 fun _ _ hie =>
    hclosed.resolve_left (ne_false_of_eq_true hie)
  have hagain : { s' with host := .answer .noInterrupt :: s'.host }.Polls .noInterrupt s' :=
    ⟨hrunning, .inr ⟨s'.host, rfl, rfl⟩⟩
  calc step s
    _ = iteration (.rst n) s' := hstep
    _ = iteration .noInterrupt s' := iteration_rst_of_not_accepted n haccepted
    _ = step { s' with host := .answer .noInterrupt :: s'.host } := hagain.step.1.symm

/-! ### One instruction, and the halted state (R342, R343) -/

/-- The bytes of an instruction are as many as its opcode byte says (R92). -/
theorem encode_length (i : Instr) : (encode i).length = opcodeLength (opcode i) := by
  cases i with
  | undefNop ddd => exact Laws.EncodingLength.undefNop ddd
  | undefCall sel addr => exact Laws.EncodingLength.undefCall sel addr
  | _ => rfl

/-- Settles O43: the body of the iteration is the decoded instruction, started as `afterFetch` leaves the state. -/
theorem stepRunsTheDecodedInstruction : Obligations.StepRunsTheDecodedInstruction := by
  intro s s' t sig i rest hpoll haccepted hhalted hquit hdecode _ hmode hexec
  rw [encode_length] at hexec
  have hbody : iterationBody sig s' = .next (retire (cycles i s') t) :=
    (iterationBody_eq_executeOne haccepted hhalted).trans (executeOne_of_exec hdecode hmode hexec)
  exact hpoll.step.1.trans (iteration_of_body hquit hbody)

/-- Settles O47: the body of the iteration adds the idle cycles, and the termination test finds the block Running. -/
theorem haltedBlockIdles : Obligations.HaltedBlockIdles := by
  intro s s' sig hpoll haccepted hhalted hquit
  obtain ⟨hstep, hrunning⟩ := hpoll.step
  rw [hstep, iteration_of_body hquit (iterationBody_of_halted haccepted hhalted), endIteration_eq,
    haltedIdle_runState, hrunning]
  rfl

/-! ### RUNSTATE (R344) -/

section RunState

variable (s : State)

theorem opJumpIf_runState (cond : Cond) (a : Word) : (opJumpIf cond a s).runState = s.runState := by
  unfold opJumpIf
  split <;> rfl

theorem opCallIf_runState (cond : Cond) (a : Word) : (opCallIf cond a s).runState = s.runState := by
  unfold opCallIf
  split <;> rfl

theorem opRetIf_runState (cond : Cond) : (opRetIf cond s).runState = s.runState := by
  unfold opRetIf
  split <;> rfl

end RunState

/-- No instruction writes RUNSTATE: the updates it is made of keep that field, and a conditional one does so on
both paths. -/
theorem exec_runState {s t : State} {i : Instr} (h : exec i s = .next t) : t.runState = s.runState := by
  cases i with
  | jnz | jz | jnc | jc | jpo | jpe | jp | jm => cases h; exact opJumpIf_runState ..
  | cnz | cz | cnc | cc | cpo | cpe | cp | cm => cases h; exact opCallIf_runState ..
  | rnz | rz | rnc | rc | rpo | rpe | rp | rm => cases h; exact opRetIf_runState ..
  | _ => cases h; rfl

/-- Before its termination test an iteration leaves RUNSTATE alone. -/
theorem iterationBody_runState {s t : State} {sig : Signal} (h : iterationBody sig s = .next t) :
    t.runState = s.runState := by
  obtain ⟨n, -, rfl⟩ | ⟨-, -, rfl⟩ | ⟨-, -, h⟩ := iterationBody_next h
  · exact s.interruptEntry_runState n
  · exact haltedIdle_runState s
  · obtain ⟨i, rest, u, -, -, hx, rfl⟩ := executeOne_next h
    have hkeeps : u.runState = (afterFetch i s).runState := exec_runState hx
    rw [retire_runState, hkeeps, afterFetch_runState]

/-- A Running block is Stopped by the termination test exactly when the test says so. -/
theorem runStateAfter_eq_stopped {sig : Signal} {params : Params} {pc : Word} :
    runStateAfter sig params pc .running = .stopped ↔ sig = .quit ∨ params.sentinel = some pc := by
  unfold runStateAfter
  split
  next hends => exact iff_of_true rfl hends
  next hends => exact iff_of_false nofun hends

/-- A Running block is Stopped or Running after the termination test. -/
theorem runStateAfter_stopped_or_running (sig : Signal) (params : Params) (pc : Word) :
    runStateAfter sig params pc .running = .stopped ∨ runStateAfter sig params pc .running = .running :=
  ite_eq_or_eq ..

/-- Settles O49: a Quit before the step stops the block, and any other iteration ends with the termination test of a
block that is Running still. -/
theorem runEndsByQuitOrSentinelOnly : Obligations.RunEndsByQuitOrSentinelOnly := by
  intro s s' sig hpoll
  obtain ⟨hstep, hrunning⟩ := hpoll.step
  refine ⟨fun hquit horder => hstep.trans (if_pos ⟨hquit, horder⟩), fun t ht => ?_⟩
  obtain ⟨hquit, -, rfl⟩ | ⟨-, u, hbody, rfl⟩ := iteration_next (hstep.symm.trans ht)
  · exact ⟨iff_of_true rfl (.inl hquit), .inl rfl⟩
  · have hstate : (endIteration sig u).runState = runStateAfter sig u.params u.pc .running := by
      rw [endIteration_eq, iterationBody_runState hbody, hrunning]
    rw [hstate]
    exact ⟨runStateAfter_eq_stopped, runStateAfter_stopped_or_running ..⟩

/-! ### Why a step stops (R330, R325, log 7) -/

/-- An outcome that is no fault, and a refusal only where `cause` gives its reason. -/
def StopsOnlyFor (cause : Refusal → Prop) (o : Result State) : Prop :=
  (∀ r, o ≠ .fault r) ∧ ∀ r, o = .refused r → cause r

/-- `r` names an undefined byte at PC, and `UNDOC_MODE` refuses such bytes (R325). -/
def UndefinedByteRefused (s : State) (r : Refusal) : Prop :=
  ∃ i, isUndefined i = true ∧ s.params.undocMode = .refuse ∧ r = .undefinedOpcode (opcode i) s.pc

/-- `r` is the refusal of the host's move `m` as a call that a Running block does not take (log 7). -/
def CallOutOfTurn (s : State) (m : HostMove) (r : Refusal) : Prop :=
  s.runState = .running ∧ ((r = .runDuringRun ∧ ∃ start, m = .run start) ∨
    (r = .attachDuringRun ∧ ((∃ contents, m = .attachMemory contents) ∨ ∃ ok, m = .attachIo ok)))

namespace StopsOnlyFor

variable {cause cause' : Refusal → Prop} {o : Result State}

theorem of_next {t : State} (h : o = .next t) : StopsOnlyFor cause o := by
  subst h
  exact ⟨nofun, nofun⟩

theorem of_refused {r : Refusal} (h : o = .refused r) (hr : cause r) : StopsOnlyFor cause o := by
  subst h
  refine ⟨nofun, fun r' h' => ?_⟩
  cases h'
  exact hr

theorem mono (h : StopsOnlyFor cause o) (himp : ∀ r, cause r → cause' r) : StopsOnlyFor cause' o :=
  ⟨h.1, fun r hr => himp r (h.2 r hr)⟩

end StopsOnlyFor

section Stops

variable (s : State) (sig : Signal)

theorem executeOne_stops : StopsOnlyFor (UndefinedByteRefused s) (executeOne s) := by
  obtain ⟨i, hdecode⟩ := decode_fetchBytes s
  by_cases hmode : s.params.undocMode = .refuse ∧ isUndefined i = true
  · exact .of_refused (executeOne_refused hdecode hmode) ⟨i, hmode.2, hmode.1, rfl⟩
  · obtain ⟨u, hexec⟩ := everyInstructionCompletesInEveryState i (afterFetch i s)
    exact .of_next (executeOne_of_exec hdecode hmode hexec)

theorem iterationBody_stops : StopsOnlyFor (UndefinedByteRefused s) (iterationBody sig s) := by
  cases haccepted : accepted sig s with
  | some n => exact .of_next (iterationBody_of_accepted haccepted)
  | none =>
    cases hhalted : s.halted with
    | true => exact .of_next (iterationBody_of_halted haccepted hhalted)
    | false =>
      rw [iterationBody_eq_executeOne haccepted hhalted]
      exact executeOne_stops s

theorem iteration_stops : StopsOnlyFor (UndefinedByteRefused s) (iteration sig s) := by
  by_cases hquit : sig = .quit ∧ s.params.quitOrder = .beforeStep
  · exact .of_next (if_pos hquit)
  · have hstops := iterationBody_stops s sig
    cases hbody : iterationBody sig s with
    | next u => exact .of_next (iteration_of_body hquit hbody)
    | fault r => exact absurd hbody (hstops.1 r)
    | refused r => exact .of_refused (iteration_refused hquit hbody) (hstops.2 r hbody)

/-- A move of the host stops for an undefined byte, or because it is a call out of turn. -/
theorem hostMove_stops (m : HostMove) :
    StopsOnlyFor (fun r => UndefinedByteRefused s r ∨ CallOutOfTurn s m r) (hostMove m s) := by
  by_cases hr : s.runState = .running
  · cases m with
    | answer sig =>
      rw [hostMove, if_pos hr]
      exact (iteration_stops s sig).mono fun _ => .inl
    | attachMemory contents =>
      exact .of_refused (if_pos hr) (.inr ⟨hr, .inr ⟨rfl, .inl ⟨contents, rfl⟩⟩⟩)
    | attachIo ok => exact .of_refused (if_pos hr) (.inr ⟨hr, .inr ⟨rfl, .inr ⟨ok, rfl⟩⟩⟩)
    | run start => exact .of_refused (by rw [hostMove, hr]) (.inr ⟨hr, .inl ⟨rfl, start, rfl⟩⟩)
    | snapshotSave => exact .of_next rfl
    | snapshotLoad tagMatches snap => cases tagMatches <;> exact .of_next rfl
  · obtain ⟨t, ht⟩ := hostMove_completes_of_not_running hr m
    exact .of_next ht

/-- A step stops for an undefined byte, or because the listed move is a call out of turn. -/
theorem step_stops : StopsOnlyFor
    (fun r => UndefinedByteRefused s r ∨ ∃ m rest, s.host = m :: rest ∧ CallOutOfTurn s m r) (step s) := by
  cases hhost : s.host with
  | nil =>
    rw [step, hhost]
    by_cases hr : s.runState = .running
    · rw [if_pos hr]
      exact (iteration_stops s s.pollAnswer).mono fun _ => .inl
    · exact .of_next (if_neg hr)
  | cons m rest =>
    rw [step_of_host hhost]
    exact (hostMove_stops { s with host := rest } m).mono fun _ =>
      Or.imp_right fun hcall => ⟨m, rest, rfl, hcall⟩

end Stops

/-- Settles O55: a step stops only for the reasons that `step_stops` gives. -/
theorem noStepFaultsAndOnlyThreeThingsAreRefused : Obligations.NoStepFaultsAndOnlyThreeThingsAreRefused := by
  intro s
  obtain ⟨hfault, hrefused⟩ := step_stops s
  refine ⟨hfault, fun r hr => ?_⟩
  obtain hundefined | ⟨m, rest, hhost, hrunning, ⟨rfl, start, rfl⟩ | ⟨rfl, hattach⟩⟩ := hrefused r hr
  · exact .inl hundefined
  · exact .inr (.inl ⟨hrunning, rfl, start, rest, hhost⟩)
  · exact .inr (.inr ⟨hrunning, rfl, m, rest, hhost, hattach⟩)

end Sys2Proof.Machine
end

section
/-! SUPPORT. Reset and hazards (70_reset_and_hazards.md R370 to R380): the EI window, snapshots, construction, Run
and the cycle counts of each family of instructions. -/

namespace Sys2Proof.Machine

/-! ### The EI window (R377) -/

section EiWindow

variable {s t : State} {i : Instr}

theorem opJumpIf_inhibit (cond : Cond) (a : Word) : (opJumpIf cond a s).inhibit = s.inhibit := by
  unfold opJumpIf
  split <;> rfl

theorem opCallIf_inhibit (cond : Cond) (a : Word) : (opCallIf cond a s).inhibit = s.inhibit := by
  unfold opCallIf
  split <;> rfl

theorem opRetIf_inhibit (cond : Cond) : (opRetIf cond s).inhibit = s.inhibit := by
  unfold opRetIf
  split <;> rfl

/-- EI opens the window if `EI_DELAY` is 1 (R298). -/
theorem exec_ei_inhibit (h : exec .ei s = .next t) : t.inhibit = s.params.eiDelay := by
  cases h
  rfl

/-- Only EI writes INHIBIT; a conditional instruction keeps it on both paths. -/
theorem exec_inhibit_of_ne_ei (h : exec i s = .next t) (hi : i ≠ .ei) : t.inhibit = s.inhibit := by
  cases i with
  | ei => exact absurd rfl hi
  | jnz | jz | jnc | jc | jpo | jpe | jp | jm => cases h; exact opJumpIf_inhibit ..
  | cnz | cz | cnc | cc | cpo | cpe | cp | cm => cases h; exact opCallIf_inhibit ..
  | rnz | rz | rnc | rc | rpo | rpe | rp | rm => cases h; exact opRetIf_inhibit ..
  | _ => cases h; rfl

/-- The fetch closes the window, so after an instruction it is open exactly when that one was EI with a delay. -/
theorem exec_afterFetch_inhibit (h : exec i (afterFetch i s) = .next t) :
    t.inhibit = true ↔ i = .ei ∧ s.params.eiDelay = true := by
  by_cases hi : i = .ei
  · subst hi
    rw [exec_ei_inhibit h, afterFetch_params]
    exact (and_iff_right rfl).symm
  · have hclosed : t.inhibit = false := exec_inhibit_of_ne_ei h hi
    exact iff_of_false (ne_true_of_eq_false hclosed) fun hei => hi hei.1

end EiWindow

/-- Settles O50: the iteration is the one instruction, after which nothing writes INHIBIT; an RST is accepted with
INHIBIT = 0 only. -/
theorem eiWindowCoversOneInstruction : Obligations.EiWindowCoversOneInstruction := by
  refine ⟨fun s s' t sig i rest hpoll haccepted hhalted hquit hdecode ht => ?window, fun s sig hopen => ?closed⟩
  case window =>
    obtain ⟨hsig, horder, -⟩ | ⟨-, u, hbody, rfl⟩ := iteration_next (hpoll.step.1.symm.trans ht)
    · exact absurd ⟨hsig, horder⟩ hquit
    · rw [iterationBody_eq_executeOne haccepted hhalted] at hbody
      obtain ⟨j, rest', v, hj, -, hexec, rfl⟩ := executeOne_next hbody
      cases hj.symm.trans hdecode
      rw [endIteration_inhibit, retire_inhibit]
      exact exec_afterFetch_inhibit hexec
  case closed => exact accepted_eq_none.2 fun _ _ _ => hopen

/-! ### Snapshots (R373) -/

/-- A byte written above every listed address is listed last. -/
theorem Memory.insert_above {m : Memory} {k : Nat} {v : Byte} (habove : ∀ cell ∈ m, cell.1 < k)
    (hv : v ≠ Memory.unlisted) : Memory.insert k v m = m ++ [(k, v)] := by
  induction m with
  | nil => exact if_neg hv
  | cons cell m ih =>
    obtain ⟨hcell, hrest⟩ := List.forall_mem_cons.1 habove
    rw [Memory.insert, if_neg (by omega), if_neg (by omega), ih hrest, List.cons_append]

/-- The cells of a canonical memory, loaded in their order over a memory that lies below them, are listed after
it one by one. -/
theorem Memory.foldl_write_of_wfFrom {cells : Memory} {lo : Nat} (hcells : Memory.wfFrom lo cells = true)
    {m : Memory} (hbelow : ∀ cell ∈ m, cell.1 < lo) :
    cells.foldl (fun acc cell => acc.write (BitVec.ofNat 16 cell.1) cell.2) m = m ++ cells := by
  induction cells generalizing lo m with
  | nil => exact (List.append_nil m).symm
  | cons cell cells ih =>
    obtain ⟨k, v⟩ := cell
    obtain ⟨hlo, hk, hv, hrest⟩ := Memory.wfFrom_cons.1 hcells
    have habove : ∀ cell ∈ m, cell.1 < k := fun cell hmem => (hbelow cell hmem).trans_le hlo
    have hwrite : m.write (BitVec.ofNat 16 k) v = m ++ [(k, v)] := by
      rw [Memory.write, BitVec.toNat_ofNat, Nat.mod_eq_of_lt hk]
      exact Memory.insert_above habove hv
    have hbelow' : ∀ cell ∈ m ++ [(k, v)], cell.1 < k + 1 :=
      List.forall_mem_append.2 ⟨fun cell hmem => (habove cell hmem).trans (Nat.lt_succ_self k), by simp⟩
    rw [List.foldl_cons, hwrite, ih hrest hbelow', List.append_assoc, List.singleton_append]

/-- A canonical memory, loaded as a list of cells, is itself. -/
theorem Memory.ofCells_of_wf {m : Memory} (h : m.wf = true) : Memory.ofCells m = m :=
  Memory.foldl_write_of_wfFrom h fun _ hmem => absurd hmem List.not_mem_nil

/-- A load of a saved snapshot writes CpuState and memory as they were saved. -/
theorem State.loadSnapshot_snapshot (s : State) {saved : State} (hf : saved.FlagsPinned) (hm : saved.MemCanonical) :
    s.loadSnapshot saved.snapshot = { s with
      a := saved.a, b := saved.b, c := saved.c, d := saved.d, e := saved.e, h := saved.h, l := saved.l
      f := saved.f, sp := saved.sp, pc := saved.pc, ie := saved.ie, mem := saved.mem } := by
  simp only [State.loadSnapshot, State.snapshot, pinFlagByte_of_pinned saved.f hf, Memory.ofCells_of_wf hm]

/-- Settles O54: a load whose tag matches is the one load, any other leaves the block alone. -/
theorem snapshotLoadRestoresCpuStateAndMemory : Obligations.SnapshotLoadRestoresCpuStateAndMemory := by
  intro s saved rest hf hm
  refine ⟨fun hhost => ?matching, fun hhost => step_of_host hhost⟩
  case matching =>
    exact (step_of_host hhost).trans (congrArg Host.Outcome.next (State.loadSnapshot_snapshot _ hf hm))

/-! ### Cycle counts (R380) -/

section Cycles

variable (s : State)

theorem cycles_ofMov_reg_reg (dst src : Reg) : cycles (.ofMov (.reg dst) (.reg src)) s = 5 := by
  cases dst <;> cases src <;> rfl

theorem cycles_ofMov_reg_m (dst : Reg) : cycles (.ofMov (.reg dst) .m) s = 7 := by cases dst <;> rfl

theorem cycles_ofMov_m_reg (src : Reg) : cycles (.ofMov .m (.reg src)) s = 7 := by cases src <;> rfl

theorem cycles_ofMvi_reg (dst : Reg) (v : Byte) : cycles (.ofMvi (.reg dst) v) s = 7 := by cases dst <;> rfl

theorem cycles_ofLxi (rp : Pair) (w : Word) : cycles (.ofLxi rp w) s = 10 := by cases rp <;> rfl

theorem cycles_ofLdax (rp : IndexPair) : cycles (.ofLdax rp) s = 7 := by cases rp <;> rfl

theorem cycles_ofStax (rp : IndexPair) : cycles (.ofStax rp) s = 7 := by cases rp <;> rfl

theorem cycles_ofAlu_reg (op : AluOp) (r : Reg) : cycles (.ofAlu op (.reg r)) s = 4 := by
  cases op <;> cases r <;> rfl

theorem cycles_ofAlu_m (op : AluOp) : cycles (.ofAlu op .m) s = 7 := by cases op <;> rfl

theorem cycles_ofAluImm (op : AluOp) (v : Byte) : cycles (.ofAluImm op v) s = 7 := by cases op <;> rfl

theorem cycles_ofInr_reg (r : Reg) : cycles (.ofInr (.reg r)) s = 5 := by cases r <;> rfl

theorem cycles_ofDcr_reg (r : Reg) : cycles (.ofDcr (.reg r)) s = 5 := by cases r <;> rfl

theorem cycles_ofInx (rp : Pair) : cycles (.ofInx rp) s = 5 := by cases rp <;> rfl

theorem cycles_ofDcx (rp : Pair) : cycles (.ofDcx rp) s = 5 := by cases rp <;> rfl

theorem cycles_ofDad (rp : Pair) : cycles (.ofDad rp) s = 10 := by cases rp <;> rfl

theorem cycles_ofPush (rp : StackPair) : cycles (.ofPush rp) s = 11 := by cases rp <;> rfl

theorem cycles_ofPop (rp : StackPair) : cycles (.ofPop rp) s = 10 := by cases rp <;> rfl

theorem cycles_ofRst (n : BitVec 3) : cycles (.ofRst n) s = 11 := by
  match n with
  | 0#3 | 1#3 | 2#3 | 3#3 | 4#3 | 5#3 | 6#3 | 7#3 => rfl

end Cycles

/-- Settles O42: a family with operands goes by its own lemma; the single instructions, the interrupt entry and the
halted iteration are by definition what R380 says. -/
theorem cycleCounts : Obligations.CycleCounts := fun s r q op rp ip sp cond n v w _ _ =>
  ⟨cycles_ofMov_reg_reg s r q, cycles_ofMov_reg_m s r, cycles_ofMov_m_reg s r, cycles_ofMvi_reg s r v, rfl,
    cycles_ofLxi s rp w, rfl, rfl, rfl, rfl, cycles_ofLdax s ip, cycles_ofStax s ip, rfl,
    cycles_ofAlu_reg s op r, cycles_ofAlu_m s op, cycles_ofAluImm s op v,
    cycles_ofInr_reg s r, cycles_ofDcr_reg s r, rfl, rfl, cycles_ofInx s rp, cycles_ofDcx s rp, cycles_ofDad s rp,
    rfl, rfl, rfl, rfl, rfl, rfl, rfl, rfl, rfl, rfl, cycles_ofJccc s cond w, rfl, rfl, cycles_ofCccc s cond w,
    rfl, rfl, cycles_ofRccc s cond, rfl, cycles_ofRst s n, cycles_ofPush s sp, cycles_ofPop s sp,
    rfl, rfl, rfl, rfl, rfl, rfl, rfl, rfl, rfl, s.interruptEntry_cycles, rfl⟩

/-! ### Construction (R370) -/

/-- Pinning the fixed bits leaves the five flags (R28). -/
@[simp] theorem Flags.unpack_pinFlagByte (f : Byte) : Flags.unpack (pinFlagByte f) = Flags.unpack f := by
  rw [← Flags.pack_unpack, Flags.unpack_pack]

/-- The flags at construction are those of `INIT_STATE`. -/
theorem State.construct_flags (params : Params) (init : InitState) :
    (State.construct params init).flags = Flags.unpack init.f := Flags.unpack_pinFlagByte init.f

/-- Settles O51: construction copies `INIT_STATE` but for F, which it pins as every write of F does. -/
theorem constructionSetsTheState : Obligations.ConstructionSetsTheState := by
  intro params init
  have hflags := State.construct_flags params init
  refine ⟨⟨rfl, rfl, rfl, rfl, rfl, rfl, rfl⟩, rfl, rfl, ?flags, pinned_pinFlagByte init.f,
    rfl, rfl, rfl, rfl, rfl, rfl⟩
  case flags =>
    exact ⟨congrArg Flags.s hflags, congrArg Flags.z hflags, congrArg Flags.ac hflags, congrArg Flags.p hflags,
      congrArg Flags.cy hflags⟩

/-! ### Run (R371) -/

/-- A Ready or a Stopped block takes `Run`. -/
theorem hostMove_run {s : State} (hr : s.runState = .ready ∨ s.runState = .stopped) (start : Word) :
    hostMove (.run start) s = .next (s.startRun start) := by
  obtain hr | hr := hr <;> rw [hostMove, hr]

/-- Settles O52: the listed move is the one `startRun`. -/
theorem runSetsPcAndKeepsTheRest : Obligations.RunSetsPcAndKeepsTheRest := fun s start rest hhost hr =>
  (step_of_host hhost).trans (hostMove_run (s := { s with host := rest }) hr start)

end Sys2Proof.Machine
end

section
/-! SUPPORT. Decoder and encoder (30_encoding.md R90 to R107): an encoded instruction decodes to itself, and every
opcode byte decodes to an instruction whose encoding it begins. -/

namespace Sys2Proof

/-! ### Decoding what was encoded -/

/-- `*NOP` keeps the field ddd of its byte, which is not that of NOP (R321). -/
theorem decodeOpcode_undefNop {ddd : BitVec 3} (h : ddd ≠ 0) (b2 b3 : Byte) :
    decodeOpcode (0b00#2 ++ ddd ++ 0b000#3 : BitVec 8) b2 b3 = .undefNop ddd := by
  match ddd with
  | 0#3 => exact absurd rfl h
  | 1#3 | 2#3 | 3#3 | 4#3 | 5#3 | 6#3 | 7#3 => rfl

/-- `*CALL` keeps bits 5:4 of its byte, which are not those of CALL (R324). -/
theorem decodeOpcode_undefCall {sel : BitVec 2} (h : sel ≠ 0) (b2 b3 : Byte) :
    decodeOpcode (0b11#2 ++ sel ++ 0b1101#4 : BitVec 8) b2 b3 = .undefCall sel (joinBytes b3 b2) := by
  match sel with
  | 0#2 => exact absurd rfl h
  | 1#2 | 2#2 | 3#2 => rfl

/-- Settles O2: the opcode byte fixes the length and the constructor, and the operand bytes are read back; the two
fields that an undefined byte keeps are those of no defined one. -/
theorem decodeOfEncodeGivesTheInstructionBack : Obligations.DecodeOfEncodeGivesTheInstructionBack := by
  intro i rest hwf
  cases i with
  | undefNop ddd => exact decode_I1 (opcodeLength_undefNop ddd) (decodeOpcode_undefNop (bne_iff_ne.1 hwf))
  | undefCall sel w => exact decode_I3 (opcodeLength_undefCall sel) (decodeOpcode_undefCall (bne_iff_ne.1 hwf)) w
  | mviB v | mviC v | mviD v | mviE v | mviH v | mviL v | mviM v | mviA v | adi v | aci v | sui v | sbi v | ani v
  | xri v | ori v | cpi v | out v | inp v =>
    rw [encode, opcode]
    exact decode_I2 rfl (fun _ _ => rfl) v
  | lxiB w | lxiD w | lxiH w | lxiSp w | shld w | lhld w | sta w | lda w | jmp w | undefJmp w | call w | jnz w
  | jz w | jnc w | jc w | jpo w | jpe w | jp w | jm w | cnz w | cz w | cnc w | cc w | cpo w | cpe w | cp w | cm w =>
    rw [encode, opcode]
    exact decode_I3 rfl (fun _ _ => rfl) w
  | _ => exact decode_I1 rfl fun _ _ => rfl

/-- Settles O1: the bytes written out are those of the encoder, which decode to their instruction. -/
theorem writtenOutBytesDecode : Obligations.WrittenOutBytesDecode := by
  have back (i : Instr) (hwf : i.wellFormed = true) : decode (encode i) = .ok (i, []) := by
    rw [← List.append_nil (encode i)]
    exact decodeOfEncodeGivesTheInstructionBack i [] hwf
  exact ⟨back .movCB rfl, back .movMA rfl, back (.mviB 0x3E) rfl, back (.lxiH 0x1234) rfl, back .adcC rfl,
    back (.ori 0x0F) rfl, back (.jz 0x2000) rfl, back .rst3 rfl, back .pushPsw rfl, back (.inp 0x10) rfl,
    back .hlt rfl, back (.undefNop 0b100) rfl, back (.undefCall 0b10 0x2000) rfl⟩

/-! ### Encoding what was decoded -/

/-- `i` is an instruction, and `bytes` begin with its encoding. -/
def Instr.Begins (i : Instr) (bytes : List Byte) : Prop := i.wellFormed = true ∧ ∃ rest, encode i ++ rest = bytes

section Begins

variable {i : Instr} {op b2 b3 : Byte} (hwf : i.wellFormed = true)

include hwf

/-- The bytes of a 1-byte instruction, and two more. -/
theorem Instr.Begins.of_one (h : encode i = [op]) : i.Begins [op, b2, b3] := ⟨hwf, [b2, b3], by rw [h]; rfl⟩

/-- The bytes of a 2-byte instruction, and one more. -/
theorem Instr.Begins.of_two (h : encode i = [op, b2]) : i.Begins [op, b2, b3] := ⟨hwf, [b3], by rw [h]; rfl⟩

/-- The bytes of a 3-byte instruction, whose address was joined from the last two (R94). -/
theorem Instr.Begins.of_three (h : encode i = [op, loByte (joinBytes b3 b2), hiByte (joinBytes b3 b2)]) :
    i.Begins [op, b2, b3] := by
  rw [loByte_joinBytes, hiByte_joinBytes] at h
  exact ⟨hwf, [], by rw [h]; rfl⟩

end Begins

/-- A byte is its three fields (R91). -/
theorem byte_eq_fields : ∀ op : Byte, op = (fieldGrp op ++ fieldDdd op ++ fieldSss op : BitVec 8) := by
  decide +kernel

section Quadrants

variable (grp : BitVec 2) (ddd sss : BitVec 3) (b2 b3 : Byte)

theorem fieldGrp_append : fieldGrp (grp ++ ddd ++ sss : BitVec 8) = grp := by
  revert grp ddd sss; decide +kernel

theorem fieldDdd_append : fieldDdd (grp ++ ddd ++ sss : BitVec 8) = ddd := by
  revert grp ddd sss; decide +kernel

theorem fieldSss_append : fieldSss (grp ++ ddd ++ sss : BitVec 8) = sss := by
  revert grp ddd sss; decide +kernel

/-- Every code names the operand it is the code of (R95). -/
theorem codeOfLoc_locOfCode : ∀ code : BitVec 3, codeOfLoc (locOfCode code) = code := by decide

/-- Quadrant 00, whose bytes with sss = 110 have one operand byte, and LXI and the four direct loads and stores two
(R101). -/
theorem decodeMisc_begins : (decodeMisc (0b00#2 ++ ddd ++ sss : BitVec 8) b2 (joinBytes b3 b2)).Begins
    [(0b00#2 ++ ddd ++ sss : BitVec 8), b2, b3] := by
  match sss with
  | 0#3 | 3#3 | 4#3 | 5#3 | 7#3 =>
    match ddd with
    | 0#3 | 1#3 | 2#3 | 3#3 | 4#3 | 5#3 | 6#3 | 7#3 => exact .of_one rfl rfl
  | 1#3 =>
    match ddd with
    | 0#3 | 2#3 | 4#3 | 6#3 => exact .of_three rfl rfl
    | 1#3 | 3#3 | 5#3 | 7#3 => exact .of_one rfl rfl
  | 2#3 =>
    match ddd with
    | 0#3 | 1#3 | 2#3 | 3#3 => exact .of_one rfl rfl
    | 4#3 | 5#3 | 6#3 | 7#3 => exact .of_three rfl rfl
  | 6#3 =>
    match ddd with
    | 0#3 | 1#3 | 2#3 | 3#3 | 4#3 | 5#3 | 6#3 | 7#3 => exact .of_two rfl rfl

theorem wellFormed_ofMov (d src : Loc) : (Instr.ofMov d src).wellFormed = true := by
  cases d with
  | m =>
    cases src with
    | m => rfl
    | reg r => cases r <;> rfl
  | reg q =>
    cases src with
    | m => cases q <;> rfl
    | reg r => cases q <;> cases r <;> rfl

theorem wellFormed_ofAlu (op : AluOp) (x : Loc) : (Instr.ofAlu op x).wellFormed = true := by
  cases x with
  | m => cases op <;> rfl
  | reg r => cases op <;> cases r <;> rfl

/-- MOV and HLT, quadrant 01 (R102). -/
theorem ofMov_begins : (Instr.ofMov (locOfCode ddd) (locOfCode sss)).Begins
    [(0b01#2 ++ ddd ++ sss : BitVec 8), b2, b3] :=
  .of_one (wellFormed_ofMov ..) (by rw [encode_ofMov, codeOfLoc_locOfCode, codeOfLoc_locOfCode])

/-- The register and M forms of the ALU, quadrant 10 (R103). -/
theorem ofAlu_begins : (Instr.ofAlu (aluOfCode ddd) (locOfCode sss)).Begins
    [(0b10#2 ++ ddd ++ sss : BitVec 8), b2, b3] :=
  .of_one (wellFormed_ofAlu ..) (by rw [encode_ofAlu, codeOfLoc_locOfCode])

/-- Quadrant 11: the jumps and calls have two operand bytes, OUT, IN and the immediate forms of the ALU one
(R104). -/
theorem decodeControl_begins : (decodeControl (0b11#2 ++ ddd ++ sss : BitVec 8) b2 (joinBytes b3 b2)).Begins
    [(0b11#2 ++ ddd ++ sss : BitVec 8), b2, b3] := by
  match sss with
  | 0#3 | 1#3 | 7#3 =>
    match ddd with
    | 0#3 | 1#3 | 2#3 | 3#3 | 4#3 | 5#3 | 6#3 | 7#3 => exact .of_one rfl rfl
  | 2#3 | 4#3 =>
    match ddd with
    | 0#3 | 1#3 | 2#3 | 3#3 | 4#3 | 5#3 | 6#3 | 7#3 => exact .of_three rfl rfl
  | 3#3 =>
    match ddd with
    | 0#3 | 1#3 => exact .of_three rfl rfl
    | 2#3 | 3#3 => exact .of_two rfl rfl
    | 4#3 | 5#3 | 6#3 | 7#3 => exact .of_one rfl rfl
  | 5#3 =>
    match ddd with
    | 0#3 | 2#3 | 4#3 | 6#3 => exact .of_one rfl rfl
    | 1#3 | 3#3 | 5#3 | 7#3 => exact .of_three rfl rfl
  | 6#3 =>
    match ddd with
    | 0#3 | 1#3 | 2#3 | 3#3 | 4#3 | 5#3 | 6#3 | 7#3 => exact .of_two rfl rfl

/-- Every opcode byte decodes to an instruction of its quadrant, whose encoding it begins (R106, R107). -/
theorem decodeOpcode_begins (op : Byte) : (decodeOpcode op b2 b3).Begins [op, b2, b3] := by
  rw [byte_eq_fields op]
  generalize fieldGrp op = grp, fieldDdd op = ddd, fieldSss op = sss
  simp only [decodeOpcode, fieldGrp_append, fieldDdd_append, fieldSss_append]
  match grp with
  | 0#2 => exact decodeMisc_begins ddd sss b2 b3
  | 1#2 => exact ofMov_begins ddd sss b2 b3
  | 2#2 => exact ofAlu_begins ddd sss b2 b3
  | 3#2 => exact decodeControl_begins ddd sss b2 b3

end Quadrants

/-- The encoding of a decoded opcode byte is that byte and as many operand bytes as R92 gives it. -/
theorem encode_decodeOpcode (op b2 b3 : Byte) :
    encode (decodeOpcode op b2 b3) = [op, b2, b3].take (opcodeLength op) := by
  obtain ⟨-, rest, hbytes⟩ := decodeOpcode_begins b2 b3 op
  have hop : opcode (decodeOpcode op b2 b3) = op := (List.cons.inj hbytes).1
  have hlen : (encode (decodeOpcode op b2 b3)).length = opcodeLength op := by rw [Machine.encode_length, hop]
  rw [← hbytes, ← hlen, List.take_left]

/-- Settles O3: whichever length the opcode byte has, the decoded instruction is well-formed, and its encoding is
the bytes that the decoder used up. -/
theorem everyThreeBytesBeginWithOneInstruction : Obligations.EveryThreeBytesBeginWithOneInstruction := by
  intro b1 b2 b3
  have hwf (x y : Byte) : (decodeOpcode b1 x y).wellFormed = true := (decodeOpcode_begins x y b1).1
  have henc (x y : Byte) := encode_decodeOpcode b1 x y
  obtain hlen | hlen | hlen := opcodeLength_cases b1 <;> rw [hlen] at henc
  · exact ⟨decodeOpcode b1 0 0, [b2, b3], by simp only [decode, hlen], hwf 0 0, by rw [henc]; rfl⟩
  · exact ⟨decodeOpcode b1 b2 0, [b3], by simp only [decode, hlen], hwf b2 0, by rw [henc]; rfl⟩
  · exact ⟨decodeOpcode b1 b2 b3, [], by simp only [decode, hlen], hwf b2 b3, by rw [henc]; rfl⟩

end Sys2Proof
end

section
/-! SUPPORT. The invariant and the control state (10_state.md B3, B4 and B7, 20_memory.md B6): what the canonical form
of memory determines, what an instruction may write besides registers and memory, and what every step keeps. -/

namespace Sys2Proof.Machine

/-! ### The canonical form of memory -/

section Canonical

variable {lo k : Nat} {v : Byte} {m n : Memory}

theorem Memory.lookup_head : Memory.lookup k ((k, v) :: m) = v := if_pos rfl

theorem Memory.lookup_tail {j : Nat} (h : j ≠ k) : Memory.lookup j ((k, v) :: m) = Memory.lookup j m := if_neg h

theorem Memory.wfFrom_head (h : Memory.wfFrom lo ((k, v) :: m) = true) : Memory.wfFrom k ((k, v) :: m) = true :=
  Memory.wfFrom_cons.2 ⟨le_rfl, (Memory.wfFrom_cons.1 h).2⟩

/-- A memory that reads a listed byte at `k` does not begin above `k`. -/
theorem Memory.le_of_lookup_eq (hn : Memory.wfFrom lo n = true) (hv : v ≠ Memory.unlisted)
    (h : Memory.lookup k n = v) : lo ≤ k :=
  Nat.le_of_not_lt fun hlt => hv (h.symm.trans (Memory.lookup_below hn hlt))

/-- Memories in canonical form that read alike begin with the same cell, since neither begins above an address that
the other lists, and go on alike. -/
theorem Memory.eq_of_lookup_eq (hm : Memory.wfFrom lo m = true) (hn : Memory.wfFrom lo n = true)
    (h : ∀ k < 65536, Memory.lookup k m = Memory.lookup k n) : m = n := by
  induction m generalizing lo n with
  | nil =>
    cases n with
    | nil => rfl
    | cons cell n =>
      obtain ⟨-, hk, hv, -⟩ := Memory.wfFrom_cons.1 hn
      exact absurd ((h _ hk).trans Memory.lookup_head).symm hv
  | cons cell m ih =>
    obtain ⟨k, v⟩ := cell
    obtain ⟨-, hk, hv, hm'⟩ := Memory.wfFrom_cons.1 hm
    have hread : Memory.lookup k n = v := (h k hk).symm.trans Memory.lookup_head
    cases n with
    | nil => exact absurd hread.symm hv
    | cons cell n =>
      obtain ⟨k', v'⟩ := cell
      obtain ⟨-, hk', hv', hn'⟩ := Memory.wfFrom_cons.1 hn
      have hle : k' ≤ k := Memory.le_of_lookup_eq (Memory.wfFrom_head hn) hv hread
      have hge : k ≤ k' :=
        Memory.le_of_lookup_eq (Memory.wfFrom_head hm) hv' ((h k' hk').trans Memory.lookup_head)
      obtain rfl := hle.antisymm hge
      obtain rfl : v' = v := Memory.lookup_head.symm.trans hread
      have htail : ∀ j < 65536, Memory.lookup j m = Memory.lookup j n := by
        intro j hj
        obtain hlater | hbefore := Nat.lt_or_ge k' j
        · rw [← Memory.lookup_tail hlater.ne', h j hj, Memory.lookup_tail hlater.ne']
        · have hbelow : j < k' + 1 := Nat.lt_succ_of_le hbefore
          rw [Memory.lookup_below hm' hbelow, Memory.lookup_below hn' hbelow]
      rw [ih hm' hn' htail]

end Canonical

/-- Settles O7: to read alike at every 16-bit address is to list the same cells. -/
theorem canonicalMemoriesThatReadAlikeAreEqual : Obligations.CanonicalMemoriesThatReadAlikeAreEqual := by
  intro m n hm hn h
  refine Memory.eq_of_lookup_eq hm hn fun k hk => ?_
  have hread := h (BitVec.ofNat 16 k)
  rwa [Memory.read, Memory.read, BitVec.toNat_ofNat, Nat.mod_eq_of_lt hk] at hread

/-! ### The control state: what an instruction may write besides the registers of the CPU and memory -/

/-- From `s` to `t` nothing changes but the general registers, F, SP, PC and memory. -/
def OnlyCpuAndMem (s t : State) : Prop :=
  t = { s with
    a := t.a, b := t.b, c := t.c, d := t.d, e := t.e, h := t.h, l := t.l, f := t.f, sp := t.sp, pc := t.pc
    mem := t.mem }

/-- What the control state, the ports and the host see of an instruction: EI, DI and HLT each write their flags, IN
and OUT are a call of the I/O Port, and any other instruction writes none of it. -/
inductive ControlEffect (s : State) : Instr → State → Prop
  | ei : ControlEffect s .ei { s with ie := true, inhibit := s.params.eiDelay }
  | di : ControlEffect s .di { s with ie := false }
  | hlt : ControlEffect s .hlt { s with halted := true }
  | inp (port : Byte) : ControlEffect s (.inp port) (opIn port s)
  | out (port : Byte) : ControlEffect s (.out port) (s.ioWrite port s.a)
  | kept {i : Instr} {t : State} (hei : i ≠ .ei) (hdi : i ≠ .di) (hhlt : i ≠ .hlt) (h : OnlyCpuAndMem s t) :
      ControlEffect s i t

section Control

variable {s t : State} {i : Instr}

theorem opJumpIf_onlyCpuAndMem (cond : Cond) (a : Word) : OnlyCpuAndMem s (opJumpIf cond a s) := by
  unfold opJumpIf
  split <;> rfl

theorem opCallIf_onlyCpuAndMem (cond : Cond) (a : Word) : OnlyCpuAndMem s (opCallIf cond a s) := by
  unfold opCallIf
  split <;> rfl

theorem opRetIf_onlyCpuAndMem (cond : Cond) : OnlyCpuAndMem s (opRetIf cond s) := by
  unfold opRetIf
  split <;> rfl

/-- Every instruction has its control effect; a conditional one has none on both paths. -/
theorem exec_controlEffect (h : exec i s = .next t) : ControlEffect s i t := by
  cases i with
  | ei => cases h; exact .ei
  | di => cases h; exact .di
  | hlt => cases h; exact .hlt
  | inp port => cases h; exact .inp port
  | out port => cases h; exact .out port
  | jnz | jz | jnc | jc | jpo | jpe | jp | jm => cases h; exact .kept nofun nofun nofun (opJumpIf_onlyCpuAndMem ..)
  | cnz | cz | cnc | cc | cpo | cpe | cp | cm => cases h; exact .kept nofun nofun nofun (opCallIf_onlyCpuAndMem ..)
  | rnz | rz | rnc | rc | rpo | rpe | rp | rm => cases h; exact .kept nofun nofun nofun (opRetIf_onlyCpuAndMem ..)
  | _ => cases h; exact .kept nofun nofun nofun rfl

end Control

/-- Settles O41: each kind of control effect writes what its instruction is said to write, and nothing else. -/
theorem onlyEiDiAndHltWriteControlState : Obligations.OnlyEiDiAndHltWriteControlState := by
  intro i s t h
  cases exec_controlEffect h with
  | ei | di | hlt => exact ⟨rfl, rfl, rfl, rfl, rfl, rfl, rfl, rfl, rfl, rfl, rfl, fun _ _ => ⟨rfl, rfl⟩⟩
  | inp port =>
    exact ⟨rfl, rfl, rfl, rfl, rfl, rfl, rfl, rfl, rfl, rfl, rfl, fun hinp _ => absurd rfl (hinp port)⟩
  | out port =>
    exact ⟨rfl, rfl, rfl, rfl, rfl, rfl, rfl, rfl, rfl, rfl, rfl, fun _ hout => absurd rfl (hout port)⟩
  | kept hei hdi hhlt hkept =>
    rw [if_neg hei, if_neg hdi, if_neg hei, if_neg hhlt, hkept]
    exact ⟨rfl, rfl, rfl, rfl, rfl, rfl, rfl, rfl, rfl, rfl, rfl, fun _ _ => ⟨rfl, rfl⟩⟩

/-! ### IE and HALTED during a run -/

section Run

variable {s s' t : State} {sig : Signal} {i : Instr}

/-- Only HLT sets HALTED. -/
theorem eq_hlt_of_exec (h : exec i s = .next t) (hs : s.halted = false) (ht : t.halted = true) : i = .hlt := by
  obtain ⟨-, -, hhalted, -⟩ := onlyEiDiAndHltWriteControlState i s t h
  by_contra hi
  rw [if_neg hi, hs, ht] at hhalted
  exact nomatch hhalted

/-- Only EI sets IE. -/
theorem eq_ei_of_exec (h : exec i s = .next t) (hs : s.ie = false) (ht : t.ie = true) : i = .ei := by
  obtain ⟨hie, -⟩ := onlyEiDiAndHltWriteControlState i s t h
  by_contra hi
  rw [if_neg hi, hs, ht, ite_self] at hie
  exact nomatch hie

/-- The three ways of an iteration with IE and HALTED: it keeps both, or accepts an interrupt and clears both, or runs
an instruction, which may halt if it is HLT and enable if it is EI. -/
theorem iteration_ie_halted (h : iteration sig s = .next t) :
    (t.ie = s.ie ∧ t.halted = s.halted) ∨
    ((∃ n, accepted sig s = some n) ∧ t.ie = false ∧ t.halted = false) ∨
    (∃ i rest, decode (fetchBytes s) = .ok (i, rest) ∧ s.halted = false ∧
      (t.halted = true → i = .hlt) ∧ (s.ie = false → t.ie = true → i = .ei)) := by
  obtain ⟨-, -, rfl⟩ | ⟨-, u, hbody, rfl⟩ := iteration_next h
  · exact .inl ⟨rfl, rfl⟩
  · obtain ⟨n, haccepted, rfl⟩ | ⟨-, -, rfl⟩ | ⟨-, hhalted, hone⟩ := iterationBody_next hbody
    · exact .inr (.inl ⟨⟨n, haccepted⟩, rfl, rfl⟩)
    · exact .inl ⟨rfl, rfl⟩
    · obtain ⟨i, rest, v, hdecode, -, hexec, rfl⟩ := executeOne_next hone
      exact .inr (.inr ⟨i, rest, hdecode, hhalted,
        eq_hlt_of_exec (s := afterFetch i s) (t := v) hexec hhalted,
        eq_ei_of_exec (s := afterFetch i s) (t := v) hexec⟩)

/-- Using up the answer to a poll leaves IE and HALTED alone. -/
theorem State.Polls.ie_halted (h : s.Polls sig s') : s'.ie = s.ie ∧ s'.halted = s.halted := by
  obtain ⟨-, ⟨-, -, rfl⟩ | ⟨rest, -, rfl⟩⟩ := h <;> exact ⟨rfl, rfl⟩

end Run

/-- Settles O48: each change of HALTED or IE leaves one of the three ways of an iteration. -/
theorem onlyHltHaltsOnlyEntryWakesOnlyEiEnables : Obligations.OnlyHltHaltsOnlyEntryWakesOnlyEiEnables := by
  refine ⟨fun s s' t sig hpoll ht => ?halted, fun s s' t sig hpoll ht hbefore hafter => ?enabled⟩
  case halted =>
    rw [← hpoll.ie_halted.2]
    obtain ⟨-, hkept⟩ | ⟨haccepted, -, hawake⟩ | ⟨i, rest, hdecode, hawake, hhlt, -⟩ :=
      iteration_ie_halted (hpoll.step.1.symm.trans ht)
    · rw [hkept]
      exact ⟨fun h1 h0 => (nomatch h1.symm.trans h0), fun h0 h1 => nomatch h0.symm.trans h1⟩
    · exact ⟨fun _ _ => haccepted, fun _ h1 => nomatch hawake.symm.trans h1⟩
    · refine ⟨fun h1 _ => (nomatch hawake.symm.trans h1), fun _ h1 => ⟨rest, ?_⟩⟩
      rw [hdecode, hhlt h1]
  case enabled =>
    rw [← hpoll.ie_halted.1] at hbefore
    obtain ⟨hkept, -⟩ | ⟨-, hcleared, -⟩ | ⟨i, rest, hdecode, -, -, hei⟩ :=
      iteration_ie_halted (hpoll.step.1.symm.trans ht)
    · exact nomatch hbefore.symm.trans (hkept.symm.trans hafter)
    · exact nomatch hcleared.symm.trans hafter
    · exact ⟨rest, by rw [hdecode, hei hbefore hafter]⟩

/-! ### The invariant, and what every step keeps -/

section Instruction

variable {s t : State} {i : Instr}

/-- An instruction keeps the fixed bits of F (R28): it keeps the byte, or packs it anew. -/
theorem exec_flagsPinned (h : exec i s = .next t) (hs : s.FlagsPinned) : t.FlagsPinned := by
  obtain hf | ⟨fl, hf⟩ := exec_f h
  · rwa [State.FlagsPinned, hf]
  · rw [State.FlagsPinned, hf]
    exact fl.pinned_pack

theorem opCallIf_memCanonical (hs : s.MemCanonical) (cond : Cond) (a : Word) : (opCallIf cond a s).MemCanonical := by
  unfold opCallIf
  split
  · exact s.wf_push16 hs
  · exact hs

/-- An instruction keeps the canonical form: what it stores (R70) is a byte, a word or a push. -/
theorem exec_memCanonical (h : exec i s = .next t) (hs : s.MemCanonical) : t.MemCanonical := by
  cases i with
  | movMB | movMC | movMD | movME | movMH | movML | movMA | mviM | inrM | dcrM | sta | staxB | staxD =>
    cases h; exact Memory.wf_write hs _ _
  | shld | xthl => cases h; exact Memory.wf_write (Memory.wf_write hs _ _) _ _
  | pushB | pushD | pushH | pushPsw | call | undefCall | rst0 | rst1 | rst2 | rst3 | rst4 | rst5 | rst6 | rst7 =>
    cases h; exact s.wf_push16 hs
  | cnz | cz | cnc | cc | cpo | cpe | cp | cm => cases h; exact opCallIf_memCanonical hs _ _
  | jnz | jz | jnc | jc | jpo | jpe | jp | jm => cases h; rwa [State.MemCanonical, opJumpIf_mem]
  | rnz | rz | rnc | rc | rpo | rpe | rp | rm => cases h; rwa [State.MemCanonical, opRetIf_mem]
  | _ => cases h; exact hs

theorem exec_params (h : exec i s = .next t) : t.params = s.params := by
  obtain ⟨-, -, -, -, -, -, -, -, hparams, -⟩ := onlyEiDiAndHltWriteControlState i s t h
  exact hparams

/-- An instruction that starts with the EI window closed and the block not halted keeps the invariant: at most one of
EI and HLT has happened when it ends. -/
theorem exec_inv (h : exec i s = .next t) (hs : s.Inv) (hinhibit : s.inhibit = false) (hhalted : s.halted = false) :
    t.Inv := by
  have hf := exec_flagsPinned h hs.flagsPinned
  have hm := exec_memCanonical h hs.memCanonical
  cases exec_controlEffect h with
  | ei => exact ⟨hf, hm, id, fun h1 => (nomatch hhalted.symm.trans h1), hs.runStateLegal⟩
  | hlt => exact ⟨hf, hm, hs.inhibitLegal, fun _ => hinhibit, hs.runStateLegal⟩
  | di | inp | out => exact ⟨hf, hm, hs.inhibitLegal, hs.haltedLegal, hs.runStateLegal⟩
  | kept _ _ _ hkept =>
    rw [hkept]
    exact ⟨hf, hm, hs.inhibitLegal, hs.haltedLegal, hs.runStateLegal⟩

end Instruction

section Iteration

variable {s t : State} {sig : Signal}

/-- The fetch closes the EI window, so the instruction starts as `exec_inv` asks. -/
theorem executeOne_inv (h : executeOne s = .next t) (hs : s.Inv) (hhalted : s.halted = false) :
    t.Inv ∧ t.params = s.params := by
  obtain ⟨i, rest, u, -, -, hexec, rfl⟩ := executeOne_next h
  have hfetched : (afterFetch i s).Inv :=
    ⟨hs.flagsPinned, hs.memCanonical, nofun, fun _ => rfl, hs.runStateLegal⟩
  have hu := exec_inv hexec hfetched rfl hhalted
  exact ⟨⟨hu.flagsPinned, hu.memCanonical, hu.inhibitLegal, hu.haltedLegal, hu.runStateLegal⟩,
    exec_params (s := afterFetch i s) (t := u) hexec⟩

/-- An interrupt is accepted with INHIBIT = 0 only, and its entry is a push and leaves the block not halted. -/
theorem iterationBody_inv (h : iterationBody sig s = .next t) (hs : s.Inv) : t.Inv ∧ t.params = s.params := by
  obtain ⟨n, -, rfl⟩ | ⟨-, -, rfl⟩ | ⟨-, hhalted, hone⟩ := iterationBody_next h
  · exact ⟨⟨hs.flagsPinned, s.wf_push16 hs.memCanonical, hs.inhibitLegal, nofun, hs.runStateLegal⟩, rfl⟩
  · exact ⟨⟨hs.flagsPinned, hs.memCanonical, hs.inhibitLegal, hs.haltedLegal, hs.runStateLegal⟩, rfl⟩
  · exact executeOne_inv hone hs hhalted

/-- A block that is not Idle has both ports attached. -/
theorem State.Inv.attached (hs : s.Inv) : s.runState ≠ .idle → s.memAttached = true ∧ s.ioAttached = true :=
  not_imp_comm.1 hs.runStateLegal.2

/-- From a Running block the end of an iteration leads to another RUNSTATE than Idle, as the ports demand. -/
theorem State.Inv.leaveRunning (hs : s.Inv) (hrunning : s.runState = .running) {after : RunState}
    (hafter : after = .stopped ∨ after = .running) (k : Nat) : { s with iteration := k, runState := after }.Inv := by
  have hboth := hs.attached (by simp [hrunning])
  have hidle : after ≠ .idle := by obtain rfl | rfl := hafter <;> nofun
  exact ⟨hs.flagsPinned, hs.memCanonical, hs.inhibitLegal, hs.haltedLegal, iff_of_false hidle (not_not_intro hboth)⟩

theorem iteration_inv (h : iteration sig s = .next t) (hs : s.Inv) (hrunning : s.runState = .running) :
    t.Inv ∧ t.params = s.params := by
  obtain ⟨-, -, rfl⟩ | ⟨-, u, hbody, rfl⟩ := iteration_next h
  · exact ⟨hs.leaveRunning hrunning (.inl rfl) _, rfl⟩
  · obtain ⟨hu, hparams⟩ := iterationBody_inv hbody hs
    have hu' : u.runState = .running := (iterationBody_runState hbody).trans hrunning
    refine ⟨?_, hparams⟩
    rw [endIteration_eq, hu']
    exact hu.leaveRunning hu' (runStateAfter_stopped_or_running ..) _

end Iteration

section Host

variable {s t : State}

/-- What the host lists is no part of the invariant. -/
theorem State.Inv.withHost (hs : s.Inv) (rest : List HostMove) : { s with host := rest }.Inv :=
  ⟨hs.flagsPinned, hs.memCanonical, hs.inhibitLegal, hs.haltedLegal, hs.runStateLegal⟩

/-- Becoming Ready makes RUNSTATE legal if only an Idle block can have a port missing (R40). -/
theorem becomeReady_runStateLegal (h : s.runState ≠ .idle → s.memAttached = true ∧ s.ioAttached = true) :
    s.becomeReady.RunStateLegal := by
  by_cases hready : s.runState = .idle ∧ s.memAttached = true ∧ s.ioAttached = true
  · obtain ⟨hidle, hboth⟩ := hready
    rw [State.RunStateLegal, becomeReady_ready hidle hboth.1 hboth.2]
    exact iff_of_false nofun (not_not_intro hboth)
  · have hkept : s.becomeReady.runState = s.runState := if_neg hready
    rw [State.RunStateLegal, hkept]
    exact ⟨fun hidle hboth => hready ⟨hidle, hboth⟩, not_imp_comm.1 h⟩

theorem State.Inv.attachMemory (hs : s.Inv) (cells : List Host.Cell) :
    { s with mem := Memory.ofCells cells, memAttached := true }.becomeReady.Inv :=
  ⟨hs.flagsPinned, Memory.wf_ofCells cells, hs.inhibitLegal, hs.haltedLegal,
    becomeReady_runStateLegal fun hr => ⟨rfl, (hs.attached hr).2⟩⟩

theorem State.Inv.attachIo (hs : s.Inv) : { s with ioAttached := true }.becomeReady.Inv :=
  ⟨hs.flagsPinned, hs.memCanonical, hs.inhibitLegal, hs.haltedLegal,
    becomeReady_runStateLegal fun hr => ⟨(hs.attached hr).1, rfl⟩⟩

theorem State.Inv.startRun (hs : s.Inv) (hr : s.runState ≠ .idle) (start : Word) : (s.startRun start).Inv :=
  ⟨hs.flagsPinned, hs.memCanonical, nofun, nofun, iff_of_false nofun (not_not_intro (hs.attached hr))⟩

theorem State.Inv.loadSnapshot (hs : s.Inv) (snap : Snapshot) : (s.loadSnapshot snap).Inv :=
  ⟨pinned_pinFlagByte snap.f, Memory.wf_ofCells snap.mem, hs.inhibitLegal, hs.haltedLegal, hs.runStateLegal⟩

/-- Every move of the host keeps the invariant: it is an iteration, one of the four updates above, or nothing. -/
theorem hostMove_inv {m : HostMove} (h : hostMove m s = .next t) (hs : s.Inv) : t.Inv ∧ t.params = s.params := by
  cases m with
  | answer sig =>
    by_cases hr : s.runState = .running
    · exact iteration_inv ((if_pos hr).symm.trans h) hs hr
    · cases (if_neg hr).symm.trans h
      exact ⟨hs, rfl⟩
  | attachMemory contents =>
    by_cases hr : s.runState = .running
    · exact nomatch (if_pos hr).symm.trans h
    · cases contents with
      | none => cases (if_neg hr).symm.trans h; exact ⟨hs, rfl⟩
      | some cells => cases (if_neg hr).symm.trans h; exact ⟨hs.attachMemory cells, rfl⟩
  | attachIo nonEmpty =>
    by_cases hr : s.runState = .running
    · exact nomatch (if_pos hr).symm.trans h
    · cases nonEmpty with
      | false => cases (if_neg hr).symm.trans h; exact ⟨hs, rfl⟩
      | true => cases (if_neg hr).symm.trans h; exact ⟨hs.attachIo, rfl⟩
  | run start =>
    rw [hostMove] at h
    cases hr : s.runState with
    | idle => rw [hr] at h; cases h; exact ⟨hs, rfl⟩
    | running => rw [hr] at h; exact nomatch h
    | ready | stopped => rw [hr] at h; cases h; exact ⟨hs.startRun (by simp [hr]) start, rfl⟩
  | snapshotSave => cases h; exact ⟨hs, rfl⟩
  | snapshotLoad tagMatches snap =>
    cases tagMatches with
    | false => cases h; exact ⟨hs, rfl⟩
    | true => cases h; exact ⟨hs.loadSnapshot snap, rfl⟩

end Host

/-- Settles O57: a step is an iteration of a Running block, a move of the host, or nothing. -/
theorem stepKeepsTheInvariant : Obligations.StepKeepsTheInvariant := by
  intro s t hs h
  obtain ⟨-, hrunning, hiteration⟩ | ⟨-, -, rfl⟩ | ⟨m, rest, -, hmove⟩ := step_next h
  · exact iteration_inv hiteration hs hrunning
  · exact ⟨hs, rfl⟩
  · exact hostMove_inv (s := { s with host := rest }) hmove (hs.withHost rest)

/-- Construction pins F whatever `INIT_STATE` says, and leaves an Idle block with no port, no memory, and no flag
of the control state set (R370). -/
theorem State.construct_inv (params : Params) (init : InitState) : (State.construct params init).Inv :=
  ⟨pinned_pinFlagByte init.f, rfl, nofun, nofun, iff_of_true rfl nofun⟩

/-- Settles O58: the reset state is a constructed one. -/
theorem constructionMeetsTheInvariant : Obligations.ConstructionMeetsTheInvariant :=
  ⟨State.construct_inv, State.construct_inv Params.reference InitState.zero⟩

end Sys2Proof.Machine
end
